-- ==== Sys2Proof/Word.lean ====
section
/-! DEFINITION. The byte, the unit of every frame buffer (00_scope.md section 5). -/

namespace Sys2Proof

/-- A byte: an unsigned integer 0 to 255, bit 0 its least significant bit. -/
abbrev Byte := BitVec 8

end Sys2Proof
end

