-- ==== Sys2Proof/Syntax.lean ====
section
/-! DEFINITION. The operations of the RPE, one constructor per row of spec/opcode_table.json (rule R79), and `Txn`, what
stands at an interface before it is decoded (rule R33). -/

namespace Sys2Proof

/-- The frequency operand `f`: the exact decimal `units / 10^dp` megahertz, never negative (R95). -/
structure Mhz where
  units : Nat
  dp : Nat
deriving DecidableEq, Repr, Inhabited

/-- The operand ports of a host request, all present whether the request uses them or not (R21, R35). -/
structure Ports where
  mode : BitVec 8
  chan : BitVec 8
  freqQ : BitVec 64
deriving DecidableEq, Repr, Inhabited

/-- A host request as the operand-holding registers `op` hold it (R21). -/
structure Req where
  code : BitVec 3
  ports : Ports
deriving DecidableEq, Repr, Inhabited

/-- A command with the operands it uses: request codes 0 to 3 (R75), the domain of VALIDATE, ADMIT and
ROUNDTRIP. -/
inductive Command where
  | startIq
  | stopIq
  | setMode (mode : Byte)
  | setFreq (chan : Byte) (f : Mhz)
deriving DecidableEq, Repr, Inhabited

/-- The operations of the RPE. -/
inductive Instr where
  /-- ENC_START_IQ (R103). -/
  | encStartIq
  /-- ENC_STOP_IQ (R104). -/
  | encStopIq
  /-- ENC_SET_MODE (R105). -/
  | encSetMode (mode : Byte)
  /-- ENC_SET_FREQ (R92). -/
  | encSetFreq (chan : Byte) (f : Mhz)
  /-- A read returns the two bytes of NAK (R68, R112). -/
  | nak
  /-- A read returns an ACK with its data item (R69, R113). -/
  | ack (item : Byte)
  /-- A read returns an unsolicited control item; `hi` is bits 7:3 of byte 1 (R70, R114). -/
  | uci (b0 : Byte) (hi : BitVec 5) (code : BitVec 16) (params : List Byte)
  /-- A read returns three bytes that match the unsolicited-item test (R115). -/
  | uciMalformed (b0 : Byte) (hi : BitVec 5) (b2 : Byte)
  /-- A read returns bytes of no known frame (R116). -/
  | unknown (raw : List Byte)
  /-- The socket delivers a 1024-byte datagram with header 04 84 (R72, R145). -/
  | iq84Large (res0 res1 : Byte) (payload : List Byte)
  /-- The socket delivers a 512-byte datagram with header 04 84. -/
  | iq84Small (res0 res1 : Byte) (payload : List Byte)
  /-- The socket delivers a 1024-byte datagram with header 04 82. -/
  | iq82Large (res0 res1 : Byte) (payload : List Byte)
  /-- The socket delivers a 512-byte datagram with header 04 82. -/
  | iq82Small (res0 res1 : Byte) (payload : List Byte)
  /-- The socket delivers a datagram of any other length or header (R148). -/
  | dgramMalformed (d : List Byte)
  /-- START_IQ request (R129). -/
  | startIq (p : Ports)
  /-- STOP_IQ request (R130). -/
  | stopIq (p : Ports)
  /-- SET_MODE request (R131). -/
  | setMode (p : Ports)
  /-- SET_FREQ request (R132). -/
  | setFreq (p : Ports)
  /-- CONNECT request (R125). -/
  | connect (p : Ports)
  /-- DISCONNECT request (R126). -/
  | disconnect (p : Ports)
  /-- Reserved request code 6 (R76). -/
  | reqReserved6 (p : Ports)
  /-- Reserved request code 7 (R76). -/
  | reqReserved7 (p : Ports)
  /-- RX_START (R150). -/
  | rxStart
  /-- ITERATE, one step of the receive agent (R151). -/
  | iterate
  /-- MHZ2HZ (R90). -/
  | mhz2hz (f : Mhz)
  /-- HZ2LE40 (R91). -/
  | hz2le40 (hz : Nat)
  /-- VALIDATE (R107). -/
  | validate (c : Command)
  /-- ADMIT (R127). -/
  | admitCmd (c : Command)
  /-- ROUNDTRIP (R128); its frame is that of a command, one of the four of R74 (log 13). -/
  | roundtrip (c : Command)
  /-- PARSE (R110, R111). -/
  | parse (B : List Byte)
  /-- DGRAM_CHECK (R145). -/
  | dgramCheck (D : List Byte)
  /-- EXTRACT (R146). -/
  | extract (D : List Byte)
deriving DecidableEq, Repr

/-- What stands at one interface, not yet decoded (R33, R79). The wire formats are byte sequences; a host request is its
port signals; the rows the table gives no code are selected by their own interface (R79: RXCTL and FUNC). -/
inductive Txn where
  /-- A command frame, read back as bytes (format CMD). -/
  | cmd (bytes : List Byte)
  /-- The operands of ENC_SET_FREQ as the encoder takes them (format CMD; R92). -/
  | encFreq (chan : Byte) (f : Mhz)
  /-- The bytes one transport read has for the RPE (format RESP). -/
  | resp (bytes : List Byte)
  /-- A datagram with the address of its sender (format DGRAM; R161). -/
  | dgram (sender : Nat) (bytes : List Byte)
  /-- A host request: `req_op` and the operand ports (format REQ). -/
  | req (op : BitVec 3) (ports : Ports)
  /-- The start pulse of the receive agent (format RXCTL). -/
  | rxStart
  /-- The receive agent is given its step (format RXCTL). -/
  | iterate
  /-- Operands of MHZ2HZ (format FUNC, as the ones below). -/
  | mhz2hz (f : Mhz)
  /-- Operands of HZ2LE40. -/
  | hz2le40 (hz : Nat)
  /-- Operands of VALIDATE. -/
  | validate (c : Command)
  /-- Operands of ADMIT. -/
  | admitCmd (c : Command)
  /-- Operands of ROUNDTRIP. -/
  | roundtrip (c : Command)
  /-- Operands of PARSE. -/
  | parse (B : List Byte)
  /-- Operands of DGRAM_CHECK. -/
  | dgramCheck (D : List Byte)
  /-- Operands of EXTRACT. -/
  | extract (D : List Byte)
deriving DecidableEq, Repr

/-- Why bits at an interface are no operation. -/
inductive DecodeError where
  /-- A command frame whose bytes are none of the four frames of R60; the encoder produces no other (R74). Safe. -/
  | notACommandFrame
  /-- A datagram longer than `DLEN_W` = 16 bits can count (R8, R43). Safe. -/
  | datagramTooLong
  /-- EXTRACT of a sequence that has no offset 4 (R146). Safe. -/
  | noPayload
deriving DecidableEq, Repr

end Sys2Proof
end

