-- ==== Sys2Proof/Config.lean ====
section
/-! DEFINITION. What an implementation fixes, and the free values (00_scope.md rule R8, 93_implementation_defined.md). -/

namespace Sys2Proof

/-- The OPEN parameters a rule reads (R8, U5). State carries them unchanged, so that a claim over states is a claim over
every choice (log 10). -/
structure Params where
  /-- `FREQ_DP` (R8): `freq_q` counts units of `10^-FREQ_DP` megahertz; the spec asks `FREQ_DP ≥ 6`. -/
  freqDp : Nat
  /-- `CANCEL_ABANDONS_INFLIGHT` (U5). -/
  cancelAbandonsInflight : Bool
deriving DecidableEq, Repr

/-- The defaults the spec names: `FREQ_DP` = 9 (R8), `CANCEL_ABANDONS_INFLIGHT` = false (U5). -/
def Params.default : Params := { freqDp := 9, cancelAbandonsInflight := false }

/-- `RX_TIMEOUT` (R8, R26): OPEN, no value and no unit in the source; no rule reads it. -/
opaque Config.rxTimeout : Nat

/-- FREE VALUE (log 7): what the operand registers hold between requests, which R21 leaves unspecified. -/
opaque Config.freeOp : Nat → Req

end Sys2Proof
end

