-- ==== Sys2Proof/Machine/Bytes.lean ====
section
/-! DEFINITION. Byte order: `le_bytes`, `le_uint` and the little-endian field read and write of 00_scope.md section 5
(rules R9, R45). Everything multi-byte in the model goes through these. -/

namespace Sys2Proof

/-- `le_bytes(v, k)`: the `k` bytes of `v`, least significant first; bits of `v` at or above `8k` are discarded. -/
def leBytes : Nat → Nat → List Byte
  | _, 0 => []
  | v, k + 1 => BitVec.ofNat 8 v :: leBytes (v / 256) k

/-- `le_uint(S)`: the integer `Σ S[i]·256^i`. -/
def leUint : List Byte → Nat
  | [] => 0
  | b :: bs => b.toNat + 256 * leUint bs

/-- `le16` of two bytes, the lower offset first. -/
def le16 (lo hi : Byte) : BitVec 16 := BitVec.ofNat 16 (lo.toNat + 256 * hi.toNat)

/-- `MemRead(space, off, n)` on the filled bytes of one space: the little-endian integer of `n` bytes at `off`;
`none` where `off + n` is beyond the filled length, since such a byte has no value (R45, R56). -/
def readLe (B : List Byte) (off n : Nat) : Option Nat :=
  if off + n ≤ B.length then some (leUint ((B.drop off).take n)) else none

/-- `MemWrite(space, off, n, v)`: `le_bytes(v, n)` at offsets `off .. off+n-1`; `none` beyond the filled length. -/
def writeLe (B : List Byte) (off n v : Nat) : Option (List Byte) :=
  if off + n ≤ B.length then some (B.take off ++ leBytes v n ++ B.drop (off + n)) else none

end Sys2Proof
end

