-- ==== Sys2Proof/Machine/Constants.lean ====
section
/-! DEFINITION. The parameters whose value the source fixes (00_scope.md rule R7) and the widths this spec fixes (R8). -/

namespace Sys2Proof

/-- `HZ_PER_MHZ` (R7). -/
abbrev hzPerMhz : Nat := 1000000
/-- Bytes of the frequency field: `FREQ_BITS` = 40 (R7). -/
abbrev freqBytes : Nat := 5
/-- Capacity of `CMD`: the longest command frame (R40). -/
abbrev cmdCap : Nat := 10
/-- The lengths of a command frame in `CMD` (R40, R73). -/
abbrev cmdLens : List Nat := [5, 8, 10]
/-- `RESP_BUF` (R7). -/
abbrev respBuf : Nat := 1024
/-- The longest datagram: `DLEN_W` = 16 (R8, R43). -/
abbrev dgramCap : Nat := 65535
/-- `DGRAM_SMALL` (R7). -/
abbrev dgramSmall : Nat := 512
/-- `DGRAM_LARGE` (R7). -/
abbrev dgramLarge : Nat := 1024
/-- `DGRAM_HDR`: the framing bytes stripped from a datagram (R7). -/
abbrev dgramHdr : Nat := 4
/-- `MODE_MAX` (R7). -/
abbrev modeMax : Nat := 6
/-- `ACK_ITEM_MAX` (R7). -/
abbrev ackItemMax : Nat := 3
/-- `UCI_MIN` (R7). -/
abbrev uciMin : Nat := 4

end Sys2Proof
end

