-- ==== Sys2Proof/Machine/Operands.lean ====
section
/-! DEFINITION. Operand forms and the fields computed from them: the frequency (R90, R91, R95), the command frames
(R61 to R67, R92, R103 to R105), the payload of a datagram (R146), the operands a request uses (R21). -/

namespace Sys2Proof

/-- MHZ2HZ (R90): `floor(f · 10^6)`, exact, never rounded up. -/
def mhz2hz (f : Mhz) : Nat := f.units * hzPerMhz / 10 ^ f.dp

/-- HZ2LE40 (R91): the five low bytes of `hz`, least significant first. -/
def hz2le40 (hz : Nat) : List Byte := leBytes (hz % 2 ^ 40) freqBytes

/-- The frequency operand on the request port: `freq_q / 10^FREQ_DP` (R95). -/
def portFreq (dp : Nat) (freqQ : BitVec 64) : Mhz := { units := freqQ.toNat, dp := dp }

/-- The Start-IQ frame (R63). -/
def frameStartIq : List Byte := [0x08, 0x00, 0x18, 0x00, 0x80, 0x02, 0x80, 0x00]

/-- The Stop-IQ frame (R64). -/
def frameStopIq : List Byte := [0x08, 0x00, 0x18, 0x00, 0x00, 0x01, 0x00, 0x00]

/-- The Set-channel-mode frame (R65). -/
def frameSetMode (mode : Byte) : List Byte := [0x05, 0x00, 0x19, 0x00, mode]

/-- The Set-frequency frame (R66, R92). -/
def frameSetFreq (chan : Byte) (f : Mhz) : List Byte := [0x0A, 0x00, 0x20, 0x00, chan] ++ hz2le40 (mhz2hz f)

/-- The frame a command is encoded as (R75). -/
def Command.frame : Command → List Byte
  | .startIq => frameStartIq
  | .stopIq => frameStopIq
  | .setMode mode => frameSetMode mode
  | .setFreq chan f => frameSetFreq chan f

/-- EXTRACT (R146): the bytes of a datagram after its four framing bytes. -/
def extract (D : List Byte) : List Byte := D.drop dgramHdr

end Sys2Proof
end

