-- ==== Sys2Proof/Machine/Types.lean ====
section
/-! DEFINITION. The data the machine's registers, ports and logs hold: codes, result records, the environment's answers and
the actions done on the environment. -/

namespace Sys2Proof

/-- ConnectionState (R23). -/
inductive ConnState where
  | disconnected
  | connected
deriving DecidableEq, Repr

/-- The codes of R170: completion statuses, reports and end reasons. -/
inductive Code where
  | ok
  | connectionError
  | stateError
  | validationError
  | protocolError
  | transferError
  | socketError
  | timeoutEnd
  | cancelled
  | malformedResponse
  | malformedPacket
  | refused
deriving DecidableEq, Repr

/-- Response classes (R118). -/
inductive RespClass where
  | unknown
  | nak
  | ack
  | uci
deriving DecidableEq, Repr

/-- The result record of PARSE (R110). -/
structure Parse where
  cls : RespClass
  malformed : Bool
  item : Byte
  code : BitVec 16
  plen : Nat
deriving DecidableEq, Repr

/-- The control result record `res` (R27). -/
structure Res where
  st : Code
  vdet : BitVec 3
  xdet : BitVec 1
  n : BitVec 11
  cls : RespClass
  malformed : Bool
  item : Byte
  code : BitVec 16
  plen : BitVec 11
deriving DecidableEq, Repr

/-- Which transport answer the request in progress waits for (R188). -/
inductive CtlWait where
  | none
  | connect
  | write
  | read
deriving DecidableEq, Repr

/-- What the transport answers a write (R12, U4). -/
inductive WriteAns where
  | ok
  /-- Failure, after the first `delivered` bytes of the frame reached the device. -/
  | fail (delivered : Nat)
deriving DecidableEq, Repr

/-- What the transport answers a read (R12): bytes it holds for the RPE, or failure. -/
inductive ReadAns where
  | data (bytes : List Byte)
  | fail
deriving DecidableEq, Repr

/-- The outcome of one datagram receive (R152). -/
inductive RxOutcome where
  | dgram (D : List Byte)
  | timeout
  | sockErr
deriving DecidableEq, Repr

/-- What the RPE asks of the transport (R33). -/
inductive TpAct where
  | connect
  | close
  | write (frame : List Byte)
  | read
deriving DecidableEq, Repr

/-- What the RPE asks of the datagram socket (R33, R157). -/
inductive SockAct where
  | receive
  | release
deriving DecidableEq, Repr

/-- What the RPE does on the sink (R33, R44, R157). -/
inductive SinkAct where
  | append (payload : List Byte)
  | release
deriving DecidableEq, Repr

/-- The result of a unit function run on its own (log 13). -/
inductive FnOut where
  | none
  /-- A command frame (ENC rows). -/
  | frame (F : List Byte)
  /-- MHZ2HZ. -/
  | hz (v : Nat)
  /-- HZ2LE40. -/
  | field (FQ : List Byte)
  /-- VALIDATE and ADMIT: the error raised, or OK, and the mask. -/
  | checked (st : Code) (vdet : BitVec 3)
  /-- PARSE. -/
  | parsed (p : Parse)
  /-- DGRAM_CHECK. -/
  | verdict (accept : Bool)
  /-- EXTRACT. -/
  | payload (P : List Byte)
deriving DecidableEq, Repr

/-- What the environment presents next (R12, R22, R33, R195). -/
inductive Stim where
  /-- Bits at an interface: an operation of the opcode table. -/
  | txn (t : Txn)
  /-- The transport answers a connect: ok or fail. -/
  | connectAns (ok : Bool)
  /-- The transport answers a write. -/
  | writeAns (a : WriteAns)
  /-- The transport answers a read with failure (a read that succeeds is a `txn` of format RESP). -/
  | readFail
  /-- The timer wins a receive. -/
  | timeout
  /-- A receive ends with a socket error. -/
  | sockErr
  /-- The caller moves the level input `cancel`. -/
  | cancel (level : Bool)
  /-- The reset input; if a frame is being written, its first `delivered` bytes reach the device. -/
  | reset (delivered : Nat)
deriving DecidableEq, Repr

end Sys2Proof
end

