-- ==== Sys2Proof/Machine/Flags.lean ====
section
/-! DEFINITION. The checks, classes and flags: the validity predicates and the mask `vdet` (R100 to R102, R107), admission
(R127), the response classifier with `malformed` (R111 to R118), the datagram verdict (R145), the numeric codes (R118, R170). -/

namespace Sys2Proof

/-- The 4-bit codes of R170. -/
def Code.bits : Code → BitVec 4
  | .ok => 0
  | .connectionError => 1
  | .stateError => 2
  | .validationError => 3
  | .protocolError => 4
  | .transferError => 5
  | .socketError => 6
  | .timeoutEnd => 7
  | .cancelled => 8
  | .malformedResponse => 9
  | .malformedPacket => 10
  | .refused => 15

/-- The 2-bit class codes of R118. -/
def RespClass.bits : RespClass → BitVec 2
  | .unknown => 0
  | .nak => 1
  | .ack => 2
  | .uci => 3

/-- `valid_mode` (R100). -/
def validMode (mode : Byte) : Bool := decide (mode.toNat ≤ modeMax)

/-- `valid_chan` (R101). -/
def validChan (chan : Byte) : Bool := chan == 0x00 || chan == 0x02 || chan == 0xFF

/-- `valid_freq` (R102): exact, on `f` before any truncation; with `S = 10^dp`, `S/10 ≤ units ≤ 34·S` or
`140·S ≤ units ≤ 150·S`. -/
def validFreq (f : Mhz) : Bool :=
  (decide (10 ^ f.dp ≤ 10 * f.units) && decide (f.units ≤ 34 * 10 ^ f.dp)) ||
  (decide (140 * 10 ^ f.dp ≤ f.units) && decide (f.units ≤ 150 * 10 ^ f.dp))

/-- The mask `vdet` of VALIDATE (R27, R107): bit 0 frequency, bit 1 channel id, bit 2 channel mode. -/
def vdetOf : Command → BitVec 3
  | .startIq => 0
  | .stopIq => 0
  | .setMode mode => if validMode mode then 0 else 4
  | .setFreq chan f => (if validFreq f then 0 else 1) ||| (if validChan chan then 0 else 2)

/-- VALIDATE (R107): the status raised, OK if none, and the mask. -/
def validateCheck (c : Command) : Code × BitVec 3 :=
  if vdetOf c = 0 then (.ok, 0) else (.validationError, vdetOf c)

/-- ADMIT (R127): validation first, then the connection check. -/
def admitCheck (c : Command) (conn : ConnState) : Code × BitVec 3 :=
  if vdetOf c = 0 then
    match conn with
    | .connected => (.ok, 0)
    | .disconnected => (.stateError, 0)
  else (.validationError, vdetOf c)

/-- UNKNOWN (R116, R118). -/
def Parse.unknownRec : Parse := { cls := .unknown, malformed := false, item := 0, code := 0, plen := 0 }

/-- NAK (R112). -/
def Parse.nakRec : Parse := { Parse.unknownRec with cls := .nak }

/-- ACK (R113): any data item, flagged malformed above 3. -/
def Parse.ackRec (item : Byte) : Parse :=
  { Parse.unknownRec with cls := .ack, item := item, malformed := decide (ackItemMax < item.toNat) }

/-- UCI (R114). -/
def Parse.uciRec (code : BitVec 16) (plen : Nat) : Parse :=
  { Parse.unknownRec with cls := .uci, code := code, plen := plen }

/-- UCI flagged malformed, no field extracted (R115). -/
def Parse.uciMalformedRec : Parse := { Parse.unknownRec with cls := .uci, malformed := true }

/-- PARSE (R111): the ordered tests, first match wins; each byte read is guarded by the length test before it. -/
def parse (B : List Byte) : Parse :=
  let n := B.length
  if n = 2 ∧ B[0]? = some 0x02 ∧ B[1]? = some 0x00 then Parse.nakRec
  else if n = 3 ∧ B[0]? = some 0x03 ∧ B[1]? = some 0x60 then
    Parse.ackRec (BitVec.ofNat 8 ((readLe B 2 1).getD 0))
  else if 2 < n ∧ (B[1]?).map (· &&& 0x07) = some 0x01 then
    if uciMin ≤ n then Parse.uciRec (BitVec.ofNat 16 ((readLe B 2 2).getD 0)) (n - 4)
    else Parse.uciMalformedRec
  else Parse.unknownRec

/-- DGRAM_CHECK (R145): length first, then the ordered header pair. -/
def dgramCheck (D : List Byte) : Bool :=
  if D.length ≠ dgramSmall ∧ D.length ≠ dgramLarge then false
  else if D[0]? ≠ some 0x04 then false
  else if D[1]? ≠ some 0x84 ∧ D[1]? ≠ some 0x82 then false
  else true

end Sys2Proof
end

