-- ==== Sys2Proof/Machine/State.lean ====
section
/-! DEFINITION. The machine's state as plain data, its faults and refusals, and the state after reset. The two agents are two
records because they share nothing (R13, R53). -/

namespace Sys2Proof.Machine

/-- The transport as the control path sees it (R12, R30, R33): the environment's side, not the RPE's. -/
structure Transport where
  /-- Answers it holds ready for connects, oldest first. -/
  connectAns : List Bool
  /-- Answers it holds ready for writes, oldest first. -/
  writeAns : List WriteAns
  /-- What it holds ready for reads, oldest first: bytes a read did not consume stay here (R30). -/
  readAns : List ReadAns
  /-- What the RPE has asked of it, oldest first. -/
  acts : List TpAct
  /-- The bytes that have reached the device, oldest first. -/
  delivered : List Byte
deriving DecidableEq, Repr

/-- The control agent (CCTL with CENC, FENC, RPAR). -/
structure Control where
  /-- `conn` (R23). -/
  conn : ConnState
  /-- `busy` (R24). -/
  busy : Bool
  /-- The transport answer the request in progress waits for (R188, R202). -/
  wait : CtlWait
  /-- The operand-holding registers `op` (R21). -/
  op : Req
  /-- The filled bytes of `CMD` (R41). -/
  cmd : List Byte
  /-- The filled bytes of `RESP` (R42). -/
  resp : List Byte
  /-- The result record `res` (R27). -/
  res : Res
  /-- `res` is valid: a request completed in this step. -/
  resValid : Bool
  /-- The event this agent reports (R177, R180). -/
  ev : Code
  /-- `ev` is valid: it is presented in this step. -/
  evValid : Bool
  /-- The transport. -/
  tp : Transport
  /-- MODEL's own: the index of the next free value (log 7). -/
  free : Nat
deriving DecidableEq, Repr

/-- The receive agent (DRX). -/
structure Receive where
  /-- `rx_run` (R25). -/
  run : Bool
  /-- A receive is in progress (R151, R152). -/
  wait : Bool
  /-- `cancel` rose during the receive in progress (R156, U5). -/
  rose : Bool
  /-- The filled bytes of `DGRAM` (R43). -/
  dgram : List Byte
  /-- The completion status of RX_START (R150, R178; log 6). -/
  startSt : Code
  /-- `startSt` is valid: an RX_START completed in this step. -/
  startValid : Bool
  /-- `rx_end` (R29). -/
  endRsn : Code
  /-- `rx_end` is valid: the session ended in this step. -/
  endValid : Bool
  /-- The event this agent reports (R148, R180). -/
  ev : Code
  /-- `ev` is valid: it is presented in this step. -/
  evValid : Bool
  /-- The level input `cancel` (R33). -/
  cancel : Bool
  /-- Outcomes the environment holds ready for receives, oldest first (R30, R152). -/
  outcomes : List RxOutcome
  /-- What the RPE has asked of the datagram socket, oldest first. -/
  sockActs : List SockAct
  /-- What the RPE has done on the sink, oldest first (R44, R147, R157). -/
  sink : List SinkAct
deriving DecidableEq, Repr

/-- The RPE and what its environment holds for it. -/
structure State where
  /-- The control agent. -/
  ctl : Control
  /-- The receive agent. -/
  rx : Receive
  /-- MODEL's own: the result of the last unit function run on its own (log 13). -/
  fn : FnOut
  /-- The open parameters; no operation writes them (log 10). -/
  params : Params
  /-- MODEL's own: what the environment presents next, in order (log 1). -/
  feed : List Stim
deriving DecidableEq, Repr

/-- Why the machine stops. Each is an access the spec says does not exist; none is an error of the RPE, whose errors are all
returned values (R183). -/
inductive Fault where
  /-- A datagram of more than 65535 bytes was to be put into `DGRAM` (R40, R43). Raised by the DGRAM rows. Safe. -/
  | dgramOverflow
  /-- The slice `D[4 .. len)` of a sequence shorter than 4 bytes (R146). Raised by EXTRACT. Safe. -/
  | noPayload
deriving DecidableEq, Repr

/-- Why the machine has no step. -/
inductive Refusal where
  /-- An instruction whose meaning is not written yet. Raised by exec's arms only. Safe. -/
  | notModelled (mnemonic : String)
  /-- The bits at an interface are no operation. Raised by the fetch. Safe. -/
  | undecodable (e : DecodeError)
deriving DecidableEq, Repr

/-- Every field of `res` at 0 (R27, R32). -/
def resZero : Res :=
  { st := .ok, vdet := 0, xdet := 0, n := 0, cls := .unknown, malformed := false, item := 0, code := 0, plen := 0 }

/-- The control agent after reset (R32); `op` by log 7, the buffers by log 8. -/
def Control.reset : Control :=
  { conn := .disconnected, busy := false, wait := .none,
    op := { code := 0, ports := { mode := 0, chan := 0, freqQ := 0 } },
    cmd := [], resp := [], res := resZero, resValid := false, ev := .ok, evValid := false,
    tp := { connectAns := [], writeAns := [], readAns := [], acts := [], delivered := [] }, free := 0 }

/-- The receive agent after reset (R32); the buffer by log 8. -/
def Receive.reset : Receive :=
  { run := false, wait := false, rose := false, dgram := [], startSt := .ok, startValid := false,
    endRsn := .ok, endValid := false, ev := .ok, evValid := false, cancel := false, outcomes := [],
    sockActs := [], sink := [] }

/-- The machine right after reset (R32, R195, R196): both agents idle, nothing presented yet. -/
def State.reset : State :=
  { ctl := Control.reset, rx := Receive.reset, fn := .none, params := Params.default, feed := [] }

end Sys2Proof.Machine
end

