-- ==== Sys2Proof/Machine/Ops.lean ====
section
/-! DEFINITION. The operations the meanings share: reads of the buffers and of the sink, accepting and completing a request,
RAISING AN ERROR (R11, R183: `Control.raise`, and `Receive.endSession` for the ends of a session), the transport round trip
with its waits, and the receive with its wait. There is no return from an error (R185). -/

namespace Sys2Proof.Machine

/-! ### Memory: the three frame buffers and the sink (R40) -/

/-- The frame buffers of R40. -/
inductive Space where
  | cmd
  | resp
  | dgram
deriving DecidableEq, Repr

/-- The filled bytes of the three buffers. -/
structure Memory where
  cmd : List Byte
  resp : List Byte
  dgram : List Byte
deriving DecidableEq, Repr

/-- The buffers of a state. -/
def State.mem (s : State) : Memory := { cmd := s.ctl.cmd, resp := s.ctl.resp, dgram := s.rx.dgram }

/-- The filled bytes of one space. -/
def Memory.space (m : Memory) : Space → List Byte
  | .cmd => m.cmd
  | .resp => m.resp
  | .dgram => m.dgram

/-- The canonical form: each buffer holds its filled bytes and no more than its capacity, `CMD` a whole frame of one of the
lengths of R40 or, before the first, nothing (R40, R56; log 8). -/
def Memory.wf (m : Memory) : Bool :=
  decide (m.cmd.length ∈ 0 :: cmdLens) && decide (m.resp.length ≤ respBuf) && decide (m.dgram.length ≤ dgramCap)

/-- One byte of a space; none where the current fill wrote no byte (R56). -/
def Memory.byte (m : Memory) (sp : Space) (off : Nat) : Option Byte := (m.space sp)[off]?

/-- `MemRead(space, off, n)`. -/
def Memory.read (m : Memory) (sp : Space) (off n : Nat) : Option Nat := readLe (m.space sp) off n

/-- `MemWrite(space, off, n, v)`. -/
def Memory.write (m : Memory) (sp : Space) (off n v : Nat) : Option Memory :=
  match sp with
  | .cmd => (writeLe m.cmd off n v).map fun B => { m with cmd := B }
  | .resp => (writeLe m.resp off n v).map fun B => { m with resp := B }
  | .dgram => (writeLe m.dgram off n v).map fun B => { m with dgram := B }

/-- The caller's read port of `RESP` (R42, R200). -/
def State.readResp (s : State) (off : Nat) : Option Byte := s.mem.byte .resp off

/-- The bytes one action adds to the sink. -/
def SinkAct.bytes : SinkAct → List Byte
  | .append P => P
  | .release => []

/-- The sink as the byte stream of R44. -/
def State.sinkBytes (s : State) : List Byte := s.rx.sink.flatMap SinkAct.bytes

/-- The event port (R29, R181): the half that is valid, if one is. -/
def State.event (s : State) : Option Code :=
  if s.ctl.evValid then some s.ctl.ev else if s.rx.evValid then some s.rx.ev else none

/-! ### Outputs -/

/-- The control agent's outputs between two completions: 0 and not valid (R27, R28, R32). -/
def Control.quiet (c : Control) : Control :=
  { c with res := resZero, resValid := false, ev := .ok, evValid := false }

/-- The receive agent's outputs likewise. -/
def Receive.quiet (r : Receive) : Receive :=
  { r with startSt := .ok, startValid := false, endRsn := .ok, endValid := false, ev := .ok, evValid := false }

/-- Every output is presented for one step (R181; log 9). -/
def State.quiet (s : State) : State := { s with ctl := s.ctl.quiet, rx := s.rx.quiet }

/-- Apply an operation of the control agent. -/
def State.onCtl (s : State) (f : Control → Control) : State := { s with ctl := f s.ctl }

/-- Apply an operation of the receive agent. -/
def State.onRx (s : State) (f : Receive → Receive) : State := { s with rx := f s.rx }

/-- Give the result of a unit function run on its own. -/
def State.setFn (s : State) (v : FnOut) : State := { s with fn := v }

/-! ### The control agent: acceptance, completion, errors -/

/-- Acceptance (R21, R24): `busy` is set and the operand registers are loaded. -/
def Control.accept (c : Control) (r : Req) : Control := { c with busy := true, op := r }

/-- Completion (R24, R27): the result record is written once, `busy` is cleared; what `op` holds from here on is
unspecified (R21), so it is a free value (log 7). -/
def Control.complete (c : Control) (r : Res) : Control :=
  { c with busy := false, wait := .none, op := Config.freeOp c.free, free := c.free + 1, res := r, resValid := true }

/-- RAISE (R11, R183): the operation ends at once with the error in the result record and nothing else. -/
def Control.raise (c : Control) (st : Code) (vdet : BitVec 3) (xdet : BitVec 1) : Control :=
  c.complete { resZero with st := st, vdet := vdet, xdet := xdet }

/-- `report(e)` (R12, R181). -/
def Control.report (c : Control) (e : Code) : Control := { c with ev := e, evValid := true }

/-- A host request (R24, R133): while `busy` = 1 it is not accepted and leaves no trace (log 4). -/
def Control.request (c : Control) (r : Req) (body : Control → Control) : Control :=
  if c.busy then c else body (c.accept r)

/-- The RPE asks something of the transport. -/
def Control.act (c : Control) (a : TpAct) : Control := { c with tp := { c.tp with acts := c.tp.acts ++ [a] } }

/-! ### The round trip (R128), cut at its waits -/

/-- The result record of a completed round trip (R27, R128). -/
def resOfParse (p : Parse) (n : Nat) : Res :=
  { st := .ok, vdet := 0, xdet := 0, n := BitVec.ofNat 11 n, cls := p.cls, malformed := p.malformed,
    item := p.item, code := p.code, plen := BitVec.ofNat 11 p.plen }

/-- The end of a round trip: PARSE of the filled slice, completion, and the two reports of R128, R177, R180. -/
def Control.finishRead (c : Control) : Control :=
  let p := parse c.resp
  let d := c.complete (resOfParse p c.resp.length)
  let e := if p.cls = .unknown then d.report .protocolError else d
  if p.malformed then e.report .malformedResponse else e

/-- What stays in the transport of the bytes one read found (R30, R138): those beyond 1024. -/
def leftover (B : List Byte) (rest : List ReadAns) : List ReadAns :=
  if respBuf < B.length then .data (B.drop respBuf) :: rest else rest

/-- `rx_read` is answered, or the read goes on waiting (R128, R135, R202). -/
def Control.resumeRead (c : Control) : Control :=
  match c.tp.readAns with
  | [] => c
  | .fail :: rest => { c with tp := { c.tp with readAns := rest } }.raise .transferError 0 1
  | .data B :: rest =>
      { c with resp := B.take respBuf, tp := { c.tp with readAns := leftover B rest } }.finishRead

/-- The one read of a round trip begins; `RESP` holds nothing until it is filled (R42, R128; log 8). -/
def Control.startRead (c : Control) : Control :=
  ({ c with resp := [], wait := .read }.act .read).resumeRead

/-- `tx_write` is answered, or the write goes on waiting (R128, R134, R202). After a failure the device has some prefix of
the frame, which the environment chose (U4, log 11). -/
def Control.resumeWrite (c : Control) : Control :=
  match c.tp.writeAns with
  | [] => c
  | .ok :: rest => { c with tp := { c.tp with writeAns := rest, delivered := c.tp.delivered ++ c.cmd } }.startRead
  | .fail k :: rest =>
      { c with tp := { c.tp with writeAns := rest, delivered := c.tp.delivered ++ c.cmd.take k } }.raise .transferError 0 0

/-- ROUNDTRIP (R128): the whole frame is handed to the transport. -/
def Control.startRoundtrip (c : Control) (F : List Byte) : Control :=
  ({ c with cmd := F, wait := .write }.act (.write F)).resumeWrite

/-- ADMIT then ROUNDTRIP (R127 to R132). -/
def Control.command (c : Control) (cmd : Command) : Control :=
  match admitCheck cmd c.conn with
  | (.ok, _) => c.startRoundtrip cmd.frame
  | (st, vdet) => c.raise st vdet 0

/-- ROUNDTRIP with no request around it: enabled for an idle agent and an admitted command, whose frame it takes (R74, R80,
R128: "the sequence every admitted command follows"). That it does nothing where it is not enabled, and that it loads no
operand register, is the model's choice (log 13). -/
def Control.roundtripAlone (c : Control) (cmd : Command) : Control :=
  if c.busy = false ∧ admitCheck cmd c.conn = (.ok, 0) then { c with busy := true }.startRoundtrip cmd.frame else c

/-! ### Connecting (R125, R126) -/

/-- The transport's connect is answered, or goes on waiting. -/
def Control.resumeConnect (c : Control) : Control :=
  match c.tp.connectAns with
  | [] => c
  | true :: rest => { c with conn := .connected, tp := { c.tp with connectAns := rest } }.complete resZero
  | false :: rest => { c with tp := { c.tp with connectAns := rest } }.raise .connectionError 0 0

/-- CONNECT (R125), Refused when already connected (R139, R178). -/
def Control.connect (c : Control) : Control :=
  match c.conn with
  | .connected => c.raise .refused 0 0
  | .disconnected => ({ c with wait := .connect }.act .connect).resumeConnect

/-- DISCONNECT (R126): `close` only if connected; never an error. -/
def Control.disconnect (c : Control) : Control :=
  match c.conn with
  | .connected => ({ c.act .close with conn := .disconnected }).complete resZero
  | .disconnected => c.complete resZero

/-- Let the request in progress go on if the answer it waits for is there. -/
def Control.resume (c : Control) : Control :=
  match c.wait with
  | .none => c
  | .connect => c.resumeConnect
  | .write => c.resumeWrite
  | .read => c.resumeRead

/-- The transport has an answer to a connect. -/
def Control.offerConnect (c : Control) (ok : Bool) : Control :=
  { c with tp := { c.tp with connectAns := c.tp.connectAns ++ [ok] } }.resume

/-- The transport has an answer to a write. -/
def Control.offerWrite (c : Control) (a : WriteAns) : Control :=
  { c with tp := { c.tp with writeAns := c.tp.writeAns ++ [a] } }.resume

/-- The transport has an answer to a read. -/
def Control.offerRead (c : Control) (a : ReadAns) : Control :=
  { c with tp := { c.tp with readAns := c.tp.readAns ++ [a] } }.resume

/-! ### The receive agent -/

/-- `report(e)`. -/
def Receive.report (r : Receive) (e : Code) : Receive := { r with ev := e, evValid := true }

/-- END (R151, R157): sink and socket are released, `rx_run` falls, the reason is presented. -/
def Receive.endSession (r : Receive) (reason : Code) : Receive :=
  { r with
    run := false, wait := false, rose := false, endRsn := reason, endValid := true,
    sink := r.sink ++ [SinkAct.release], sockActs := r.sockActs ++ [SockAct.release] }

/-- A datagram in `DGRAM` (R145 to R148): one append of the payload, or one report. -/
def Receive.takeDatagram (r : Receive) (D : List Byte) : Receive :=
  if dgramCheck D then { r with dgram := D, sink := r.sink ++ [SinkAct.append (extract D)] }
  else { r with dgram := D }.report .malformedPacket

/-- The outcome of a receive (R151, R154, R155). Where the parameter of U5 says so, a datagram that arrives in the receive
during which `cancel` rose is dropped. -/
def Receive.handle (r : Receive) (abandons : Bool) (o : RxOutcome) : Receive :=
  match o with
  | .dgram D =>
      if abandons && r.rose then { r with dgram := D, wait := false, rose := false }
      else { r with wait := false, rose := false }.takeDatagram D
  | .timeout => r.endSession .timeoutEnd
  | .sockErr => r.endSession .socketError

/-- The receive in progress ends with the first outcome there is, or goes on waiting (R152). -/
def Receive.resume (r : Receive) (abandons : Bool) : Receive :=
  if r.run && r.wait then
    match r.outcomes with
    | [] => r
    | o :: rest => { r with outcomes := rest }.handle abandons o
  else r

/-- The environment has an outcome for a receive. -/
def Receive.offer (r : Receive) (abandons : Bool) (o : RxOutcome) : Receive :=
  { r with outcomes := r.outcomes ++ [o] }.resume abandons

/-- RX_START (R150), Refused while a session runs (R159, R178). -/
def Receive.start (r : Receive) : Receive :=
  if r.run then { r with startSt := .refused, startValid := true }
  else { r with run := true, wait := false, rose := false, startSt := .ok, startValid := true }

/-- ITERATE (R151): enabled iff `rx_run` = 1 and the iteration before it has ended; `cancel` is read first. -/
def Receive.iterate (r : Receive) (abandons : Bool) : Receive :=
  if r.run && !r.wait then
    if r.cancel then r.endSession .cancelled
    else { r with wait := true, rose := false, sockActs := r.sockActs ++ [SockAct.receive] }.resume abandons
  else r

/-- The caller moves `cancel`; a receive in progress is not interrupted (R156). -/
def Receive.setCancel (r : Receive) (level : Bool) : Receive :=
  { r with cancel := level, rose := r.rose || (r.run && r.wait && level) }

end Sys2Proof.Machine
end

