-- ==== Sys2Proof/Machine/Cctl.lean ====
section
/-! DEFINITION. The meanings of the control channel CCTL (43_control_channel.md): the eight request codes, ADMIT and
ROUNDTRIP. -/

namespace Sys2Proof.Machine

/-- START_IQ request, code 0 (R129). -/
def execStartIq (p : Ports) (s : State) : Host.Outcome State Fault Refusal :=
  .next (s.onCtl (·.request { code := 0, ports := p } (·.command .startIq)))

/-- STOP_IQ request, code 1 (R130). -/
def execStopIq (p : Ports) (s : State) : Host.Outcome State Fault Refusal :=
  .next (s.onCtl (·.request { code := 1, ports := p } (·.command .stopIq)))

/-- SET_MODE request, code 2 (R131). -/
def execSetMode (p : Ports) (s : State) : Host.Outcome State Fault Refusal :=
  .next (s.onCtl (·.request { code := 2, ports := p } (·.command (.setMode p.mode))))

/-- SET_FREQ request, code 3 (R132). -/
def execSetFreq (p : Ports) (s : State) : Host.Outcome State Fault Refusal :=
  .next (s.onCtl (·.request { code := 3, ports := p }
    (·.command (.setFreq p.chan (portFreq s.params.freqDp p.freqQ)))))

/-- CONNECT request, code 4 (R125). -/
def execConnect (p : Ports) (s : State) : Host.Outcome State Fault Refusal :=
  .next (s.onCtl (·.request { code := 4, ports := p } (·.connect)))

/-- DISCONNECT request, code 5 (R126). -/
def execDisconnect (p : Ports) (s : State) : Host.Outcome State Fault Refusal :=
  .next (s.onCtl (·.request { code := 5, ports := p } (·.disconnect)))

/-- Reserved request code 6 (R76, R178): completes with Refused (log 5). -/
def execReqReserved6 (p : Ports) (s : State) : Host.Outcome State Fault Refusal :=
  .next (s.onCtl (·.request { code := 6, ports := p } (·.raise .refused 0 0)))

/-- Reserved request code 7 (R76, R178): completes with Refused (log 5). -/
def execReqReserved7 (p : Ports) (s : State) : Host.Outcome State Fault Refusal :=
  .next (s.onCtl (·.request { code := 7, ports := p } (·.raise .refused 0 0)))

/-- ADMIT on its own (R127): the verdict for a command in the connection state there is. -/
def execAdmitCmd (c : Command) (s : State) : Host.Outcome State Fault Refusal :=
  .next (s.setFn (.checked (admitCheck c s.ctl.conn).1 (admitCheck c s.ctl.conn).2))

/-- ROUNDTRIP on its own (R128): the control agent performs the sequence with the frame of an admitted command, if it is
idle (R127, R133). DESIGN CHOICE: which frames it takes on its own (those of admitted commands, R74) and that it does nothing
for any other operand or while busy (log 13). -/
def execRoundtrip (c : Command) (s : State) : Host.Outcome State Fault Refusal :=
  .next (s.onCtl (·.roundtripAlone c))

end Sys2Proof.Machine
end

