-- ==== Sys2Proof/Machine/Cenc.lean ====
section
/-! DEFINITION. The meanings of the command codec CENC (41_command_codec.md). -/

namespace Sys2Proof.Machine

/-- ENC_START_IQ (R103). -/
def execEncStartIq (s : State) : Host.Outcome State Fault Refusal :=
  .next (s.setFn (.frame frameStartIq))

/-- ENC_STOP_IQ (R104). -/
def execEncStopIq (s : State) : Host.Outcome State Fault Refusal :=
  .next (s.setFn (.frame frameStopIq))

/-- ENC_SET_MODE (R105). -/
def execEncSetMode (mode : Byte) (s : State) : Host.Outcome State Fault Refusal :=
  .next (s.setFn (.frame (frameSetMode mode)))

/-- VALIDATE (R107). -/
def execValidate (c : Command) (s : State) : Host.Outcome State Fault Refusal :=
  .next (s.setFn (.checked (validateCheck c).1 (validateCheck c).2))

end Sys2Proof.Machine
end

