-- ==== Sys2Proof/WellFormed.lean ====
section
/-! DEFINITION. Which terms of `Instr` stand for an operation of the RPE: the length and class conditions that the table's
rows put on their operands (R40, R43, R60, R72, R79, R110). -/

namespace Sys2Proof

/-- The conditions on an operation's operands. -/
def wellFormed : Instr → Bool
  | .encStartIq => true
  | .encStopIq => true
  | .encSetMode _ => true
  | .encSetFreq _ _ => true
  | .nak => true
  | .ack _ => true
  | .uci _ _ _ _ => true
  | .uciMalformed _ _ _ => true
  | .unknown raw => (parse raw).cls == .unknown
  | .iq84Large _ _ p => p.length == dgramLarge - dgramHdr
  | .iq84Small _ _ p => p.length == dgramSmall - dgramHdr
  | .iq82Large _ _ p => p.length == dgramLarge - dgramHdr
  | .iq82Small _ _ p => p.length == dgramSmall - dgramHdr
  | .dgramMalformed d => !dgramCheck d && decide (d.length ≤ dgramCap)
  | .startIq _ => true
  | .stopIq _ => true
  | .setMode _ => true
  | .setFreq _ => true
  | .connect _ => true
  | .disconnect _ => true
  | .reqReserved6 _ => true
  | .reqReserved7 _ => true
  | .rxStart => true
  | .iterate => true
  | .mhz2hz _ => true
  | .hz2le40 _ => true
  | .validate _ => true
  | .admitCmd _ => true
  | .roundtrip _ => true
  | .parse _ => true
  | .dgramCheck D => decide (D.length ≤ dgramCap)
  | .extract D => decide (dgramHdr ≤ D.length) && decide (D.length ≤ dgramCap)

end Sys2Proof
end

