-- ==== Sys2Proof/Decode.lean ====
section
/-! DEFINITION. The decoder, total and rejecting by name, and after it the encoder, both written from the frame layouts of
30_encoding.md (R60 to R75) and independently of the classifier PARSE and the verdict DGRAM_CHECK. -/

namespace Sys2Proof

/-- Command frames (R63 to R66). The frequency field is read back as a whole number of hertz, six decimal places of a
megahertz (log 14). -/
def decodeCmd : List Byte → Except DecodeError Instr
  | [0x08, 0x00, 0x18, 0x00, 0x80, 0x02, 0x80, 0x00] => .ok .encStartIq
  | [0x08, 0x00, 0x18, 0x00, 0x00, 0x01, 0x00, 0x00] => .ok .encStopIq
  | [0x05, 0x00, 0x19, 0x00, mode] => .ok (.encSetMode mode)
  | [0x0A, 0x00, 0x20, 0x00, chan, h0, h1, h2, h3, h4] =>
      .ok (.encSetFreq chan { units := leUint [h0, h1, h2, h3, h4], dp := 6 })
  | _ => .error .notACommandFrame

/-- Bits 7:3 of byte 1 of an unsolicited control item (R70). -/
def highBits (b1 : Byte) : BitVec 5 := b1.extractLsb' 3 5

/-- Response buffers (R68 to R71). Byte 1 of an unsolicited item has low bits 001, whatever its other bits. -/
def decodeResp : List Byte → Instr
  | [b0, b1] => if b0 = 0x02 ∧ b1 = 0x00 then .nak else .unknown [b0, b1]
  | [b0, b1, b2] =>
      if b0 = 0x03 ∧ b1 = 0x60 then .ack b2
      else if b1.extractLsb' 0 3 = 1#3 then .uciMalformed b0 (highBits b1) b2
      else .unknown [b0, b1, b2]
  | b0 :: b1 :: c0 :: c1 :: params =>
      if b1.extractLsb' 0 3 = 1#3 then .uci b0 (highBits b1) (le16 c0 c1) params
      else .unknown (b0 :: b1 :: c0 :: c1 :: params)
  | raw => .unknown raw

/-- Datagrams (R72): four accepted combinations of header and length, and the catch-all. -/
def decodeDgram (D : List Byte) : Except DecodeError Instr :=
  if dgramCap < D.length then .error .datagramTooLong
  else match D with
    | b0 :: b1 :: r0 :: r1 :: payload =>
        if b0 = 0x04 ∧ b1 = 0x84 ∧ payload.length = 1020 then .ok (.iq84Large r0 r1 payload)
        else if b0 = 0x04 ∧ b1 = 0x84 ∧ payload.length = 508 then .ok (.iq84Small r0 r1 payload)
        else if b0 = 0x04 ∧ b1 = 0x82 ∧ payload.length = 1020 then .ok (.iq82Large r0 r1 payload)
        else if b0 = 0x04 ∧ b1 = 0x82 ∧ payload.length = 508 then .ok (.iq82Small r0 r1 payload)
        else .ok (.dgramMalformed D)
    | _ => .ok (.dgramMalformed D)

/-- Host requests (R75, R76): all eight codes. -/
def decodeReq (op : BitVec 3) (p : Ports) : Instr :=
  match op.toNat with
  | 0 => .startIq p
  | 1 => .stopIq p
  | 2 => .setMode p
  | 3 => .setFreq p
  | 4 => .connect p
  | 5 => .disconnect p
  | 6 => .reqReserved6 p
  | _ => .reqReserved7 p

/-- The decoder. The sender of a datagram is not used (R161). -/
def decode : Txn → Except DecodeError Instr
  | .cmd bytes => decodeCmd bytes
  | .encFreq chan f => .ok (.encSetFreq chan f)
  | .resp bytes => .ok (decodeResp bytes)
  | .dgram _ bytes => decodeDgram bytes
  | .req op p => .ok (decodeReq op p)
  | .rxStart => .ok .rxStart
  | .iterate => .ok .iterate
  | .mhz2hz f => .ok (.mhz2hz f)
  | .hz2le40 hz => .ok (.hz2le40 hz)
  | .validate c => .ok (.validate c)
  | .admitCmd c => .ok (.admitCmd c)
  | .roundtrip c => .ok (.roundtrip c)
  | .parse B => .ok (.parse B)
  | .dgramCheck D => if D.length ≤ dgramCap then .ok (.dgramCheck D) else .error .datagramTooLong
  | .extract D =>
      if dgramCap < D.length then .error .datagramTooLong
      else if dgramHdr ≤ D.length then .ok (.extract D)
      else .error .noPayload

/-- Byte 1 of an unsolicited control item (R70): the five free bits above binary 001. -/
def uciByte1 (hi : BitVec 5) : Byte := hi ++ 1#3

/-- The bytes of NAK (R68). -/
def nakBytes : List Byte := [0x02, 0x00]

/-- The bytes of an ACK (R69). -/
def ackBytes (item : Byte) : List Byte := [0x03, 0x60, item]

/-- The bytes of an unsolicited control item (R70): the code little-endian at offset 2, parameters from offset 4. -/
def uciBytes (b0 : Byte) (hi : BitVec 5) (code : BitVec 16) (params : List Byte) : List Byte :=
  [b0, uciByte1 hi] ++ leBytes code.toNat 2 ++ params

/-- The three bytes that match the unsolicited-item test (R115). -/
def uciShortBytes (b0 : Byte) (hi : BitVec 5) (b2 : Byte) : List Byte := [b0, uciByte1 hi, b2]

/-- The bytes of a datagram (R72). -/
def iqBytes (kind r0 r1 : Byte) (payload : List Byte) : List Byte := 0x04 :: kind :: r0 :: r1 :: payload

/-- The encoder: what stands at the interface for an operation. -/
def encode : Instr → Txn
  | .encStartIq => .cmd [0x08, 0x00, 0x18, 0x00, 0x80, 0x02, 0x80, 0x00]
  | .encStopIq => .cmd [0x08, 0x00, 0x18, 0x00, 0x00, 0x01, 0x00, 0x00]
  | .encSetMode mode => .cmd [0x05, 0x00, 0x19, 0x00, mode]
  | .encSetFreq chan f =>
      if f.dp = 6 ∧ f.units < 2 ^ 40 then .cmd ([0x0A, 0x00, 0x20, 0x00, chan] ++ leBytes f.units 5)
      else .encFreq chan f
  | .nak => .resp nakBytes
  | .ack item => .resp (ackBytes item)
  | .uci b0 hi code params => .resp (uciBytes b0 hi code params)
  | .uciMalformed b0 hi b2 => .resp (uciShortBytes b0 hi b2)
  | .unknown raw => .resp raw
  | .iq84Large r0 r1 p => .dgram 0 (iqBytes 0x84 r0 r1 p)
  | .iq84Small r0 r1 p => .dgram 0 (iqBytes 0x84 r0 r1 p)
  | .iq82Large r0 r1 p => .dgram 0 (iqBytes 0x82 r0 r1 p)
  | .iq82Small r0 r1 p => .dgram 0 (iqBytes 0x82 r0 r1 p)
  | .dgramMalformed d => .dgram 0 d
  | .startIq p => .req 0 p
  | .stopIq p => .req 1 p
  | .setMode p => .req 2 p
  | .setFreq p => .req 3 p
  | .connect p => .req 4 p
  | .disconnect p => .req 5 p
  | .reqReserved6 p => .req 6 p
  | .reqReserved7 p => .req 7 p
  | .rxStart => .rxStart
  | .iterate => .iterate
  | .mhz2hz f => .mhz2hz f
  | .hz2le40 hz => .hz2le40 hz
  | .validate c => .validate c
  | .admitCmd c => .admitCmd c
  | .roundtrip c => .roundtrip c
  | .parse B => .parse B
  | .dgramCheck D => .dgramCheck D
  | .extract D => .extract D

/-- Zero bytes up to length `n`. -/
def padTo (n : Nat) (bytes : List Byte) : List Byte := bytes ++ List.replicate (n - bytes.length) 0

/-- The interface and the bytes of a row of the opcode table whose first `nbits` bits are `w` (R79). The table gives a row
no port and no length, so both are read off the bits: 8 bits are a request code; a fixed prefix is completed with zero
bytes to the shortest frame it can begin, except that an accepted datagram header begins the large datagram (log 15). -/
def tableTxn (nbits w : Nat) : Txn :=
  let bytes := leBytes w (nbits / 8)
  let zeroPorts : Ports := { mode := 0, chan := 0, freqQ := 0 }
  match bytes with
  | [] => .resp []
  | [b0] => .req (b0.extractLsb' 0 3) zeroPorts
  | [b0, b1] =>
      if b0 = 0x04 ∧ (b1 = 0x84 ∨ b1 = 0x82) then .dgram 0 (padTo 1024 bytes)
      else if b0 = 0x03 ∧ b1 = 0x60 then .resp (padTo 3 bytes)
      else if b1.extractLsb' 0 3 = 1#3 then .resp (padTo 4 bytes)
      else .resp bytes
  | [0x05, 0x00, 0x19, 0x00] => .cmd (padTo 5 bytes)
  | [0x0A, 0x00, 0x20, 0x00] => .cmd (padTo 10 bytes)
  | [_, _, _] => .resp bytes
  | [_, _, _, _] => .resp bytes
  | _ => if bytes.length = 512 ∨ bytes.length = 1024 then .dgram 0 bytes else .cmd bytes

/-- The operation the decoder reads from the table's bits. -/
def decodeTableWord (nbits w : Nat) : Option Instr := (decode (tableTxn nbits w)).toOption

end Sys2Proof
end

