-- ==== Sys2Proof/Machine/Drx.lean ====
section
/-! DEFINITION. The meanings of the data receiver DRX (44_data_receiver.md). A DGRAM row is a datagram the socket delivers: it
ends the receive in progress and is judged by R145; with no receive in progress it stays in the socket for the next one
(R30; log 17). -/

namespace Sys2Proof.Machine

/-- The socket delivers a datagram, if its length can be counted (R43). -/
def offerDatagram (D : List Byte) (s : State) : Host.Outcome State Fault Refusal :=
  if D.length ≤ dgramCap then .next (s.onRx (·.offer s.params.cancelAbandonsInflight (.dgram D)))
  else .fault .dgramOverflow

/-- IQ_84_LARGE (R145, R147). -/
def execIq84Large (r0 r1 : Byte) (payload : List Byte) (s : State) : Host.Outcome State Fault Refusal :=
  offerDatagram (iqBytes 0x84 r0 r1 payload) s

/-- IQ_84_SMALL (R145, R147). -/
def execIq84Small (r0 r1 : Byte) (payload : List Byte) (s : State) : Host.Outcome State Fault Refusal :=
  offerDatagram (iqBytes 0x84 r0 r1 payload) s

/-- IQ_82_LARGE (R145, R147). -/
def execIq82Large (r0 r1 : Byte) (payload : List Byte) (s : State) : Host.Outcome State Fault Refusal :=
  offerDatagram (iqBytes 0x82 r0 r1 payload) s

/-- IQ_82_SMALL (R145, R147). -/
def execIq82Small (r0 r1 : Byte) (payload : List Byte) (s : State) : Host.Outcome State Fault Refusal :=
  offerDatagram (iqBytes 0x82 r0 r1 payload) s

/-- DGRAM_MALFORMED (R148). -/
def execDgramMalformed (d : List Byte) (s : State) : Host.Outcome State Fault Refusal :=
  offerDatagram d s

/-- RX_START (R150). -/
def execRxStart (s : State) : Host.Outcome State Fault Refusal :=
  .next (s.onRx (·.start))

/-- ITERATE (R151). -/
def execIterate (s : State) : Host.Outcome State Fault Refusal :=
  .next (s.onRx (·.iterate s.params.cancelAbandonsInflight))

/-- DGRAM_CHECK (R145). -/
def execDgramCheck (D : List Byte) (s : State) : Host.Outcome State Fault Refusal :=
  .next (s.setFn (.verdict (dgramCheck D)))

/-- EXTRACT (R146): the slice exists from four bytes on (log 22). -/
def execExtract (D : List Byte) (s : State) : Host.Outcome State Fault Refusal :=
  if dgramHdr ≤ D.length then .next (s.setFn (.payload (extract D))) else .fault .noPayload

end Sys2Proof.Machine
end

