-- ==== Sys2Proof/Machine/Fenc.lean ====
section
/-! DEFINITION. The meanings of the frequency encoder FENC (40_frequency_encoder.md). -/

namespace Sys2Proof.Machine

/-- MHZ2HZ (R90). -/
def execMhz2hz (f : Mhz) (s : State) : Host.Outcome State Fault Refusal :=
  .next (s.setFn (.hz (mhz2hz f)))

/-- HZ2LE40 (R91). -/
def execHz2le40 (hz : Nat) (s : State) : Host.Outcome State Fault Refusal :=
  .next (s.setFn (.field (hz2le40 hz)))

/-- ENC_SET_FREQ (R92). -/
def execEncSetFreq (chan : Byte) (f : Mhz) (s : State) : Host.Outcome State Fault Refusal :=
  .next (s.setFn (.frame (frameSetFreq chan f)))

end Sys2Proof.Machine
end

