-- ==== Sys2Proof/Machine/Rpar.lean ====
section
/-! DEFINITION. The meanings of the response parser RPAR (42_response_parser.md). A RESP row is the bytes one transport read
returns (the table's direction column): a round trip that waits for its read completes with them, parsed by R111; with no
read in progress they stay in the transport for the next one (R30; log 12, log 23). -/

namespace Sys2Proof.Machine

/-- NAK (R112). -/
def execNak (s : State) : Host.Outcome State Fault Refusal :=
  .next (s.onCtl (·.offerRead (.data nakBytes)))

/-- ACK (R113). -/
def execAck (item : Byte) (s : State) : Host.Outcome State Fault Refusal :=
  .next (s.onCtl (·.offerRead (.data (ackBytes item))))

/-- UCI (R114). -/
def execUci (b0 : Byte) (hi : BitVec 5) (code : BitVec 16) (params : List Byte) (s : State) :
    Host.Outcome State Fault Refusal :=
  .next (s.onCtl (·.offerRead (.data (uciBytes b0 hi code params))))

/-- UCI_MALFORMED (R115). -/
def execUciMalformed (b0 : Byte) (hi : BitVec 5) (b2 : Byte) (s : State) : Host.Outcome State Fault Refusal :=
  .next (s.onCtl (·.offerRead (.data (uciShortBytes b0 hi b2))))

/-- UNKNOWN (R116). -/
def execUnknown (raw : List Byte) (s : State) : Host.Outcome State Fault Refusal :=
  .next (s.onCtl (·.offerRead (.data raw)))

/-- PARSE (R110, R111). -/
def execParse (B : List Byte) (s : State) : Host.Outcome State Fault Refusal :=
  .next (s.setFn (.parsed (parse B)))

end Sys2Proof.Machine
end

