-- ==== Sys2Proof/Machine/Dispatch.lean ====
section
/-! DEFINITION. One arm per operation of the opcode table, each a call of its meaning. -/

namespace Sys2Proof.Machine

def exec (i : Instr) (s : State) : Host.Outcome State Fault Refusal :=
  match i with
  | .encStartIq => Sys2Proof.Machine.execEncStartIq s
  | .encStopIq => Sys2Proof.Machine.execEncStopIq s
  | .encSetMode mode => Sys2Proof.Machine.execEncSetMode mode s
  | .encSetFreq chan f => Sys2Proof.Machine.execEncSetFreq chan f s
  | .nak => Sys2Proof.Machine.execNak s
  | .ack item => Sys2Proof.Machine.execAck item s
  | .uci b0 hi code params => Sys2Proof.Machine.execUci b0 hi code params s
  | .uciMalformed b0 hi b2 => Sys2Proof.Machine.execUciMalformed b0 hi b2 s
  | .unknown raw => Sys2Proof.Machine.execUnknown raw s
  | .iq84Large r0 r1 payload => Sys2Proof.Machine.execIq84Large r0 r1 payload s
  | .iq84Small r0 r1 payload => Sys2Proof.Machine.execIq84Small r0 r1 payload s
  | .iq82Large r0 r1 payload => Sys2Proof.Machine.execIq82Large r0 r1 payload s
  | .iq82Small r0 r1 payload => Sys2Proof.Machine.execIq82Small r0 r1 payload s
  | .dgramMalformed d => Sys2Proof.Machine.execDgramMalformed d s
  | .startIq p => Sys2Proof.Machine.execStartIq p s
  | .stopIq p => Sys2Proof.Machine.execStopIq p s
  | .setMode p => Sys2Proof.Machine.execSetMode p s
  | .setFreq p => Sys2Proof.Machine.execSetFreq p s
  | .connect p => Sys2Proof.Machine.execConnect p s
  | .disconnect p => Sys2Proof.Machine.execDisconnect p s
  | .reqReserved6 p => Sys2Proof.Machine.execReqReserved6 p s
  | .reqReserved7 p => Sys2Proof.Machine.execReqReserved7 p s
  | .rxStart => Sys2Proof.Machine.execRxStart s
  | .iterate => Sys2Proof.Machine.execIterate s
  | .mhz2hz f => Sys2Proof.Machine.execMhz2hz f s
  | .hz2le40 hz => Sys2Proof.Machine.execHz2le40 hz s
  | .validate c => Sys2Proof.Machine.execValidate c s
  | .admitCmd c => Sys2Proof.Machine.execAdmitCmd c s
  | .roundtrip c => Sys2Proof.Machine.execRoundtrip c s
  | .parse B => Sys2Proof.Machine.execParse B s
  | .dgramCheck D => Sys2Proof.Machine.execDgramCheck D s
  | .extract D => Sys2Proof.Machine.execExtract D s

end Sys2Proof.Machine
end

