-- ==== Sys2Proof/Machine/Environment.lean ====
section
/-! DEFINITION. What the environment does that is no row of the opcode table: the transport's answers, the other two
outcomes of a receive, the level `cancel`, the reset input (R12, R33, R152, R156, R195). -/

namespace Sys2Proof.Machine

/-- RESET (R195, R32): every state element at its reset value, the operation in progress abandoned with no result and no
event; a frame being written is cut off where it stands; no `close` and no release is performed. What the environment holds
and has seen is not the RPE's and stays (log 20). -/
def State.resetInput (s : State) (delivered : Nat) : State :=
  { s with
    ctl := { Control.reset with
      free := s.ctl.free
      tp := if s.ctl.wait = .write then { s.ctl.tp with delivered := s.ctl.tp.delivered ++ s.ctl.cmd.take delivered }
        else s.ctl.tp }
    rx := { Receive.reset with
      cancel := s.rx.cancel, outcomes := s.rx.outcomes, sockActs := s.rx.sockActs, sink := s.rx.sink }
    fn := .none }

/-- The effect of a stimulus that is no operation of the opcode table; a `txn` is not handled here. -/
def applyStim (e : Stim) (s : State) : State :=
  match e with
  | .txn _ => s
  | .connectAns ok => s.onCtl (·.offerConnect ok)
  | .writeAns a => s.onCtl (·.offerWrite a)
  | .readFail => s.onCtl (·.offerRead .fail)
  | .timeout => s.onRx (·.offer s.params.cancelAbandonsInflight .timeout)
  | .sockErr => s.onRx (·.offer s.params.cancelAbandonsInflight .sockErr)
  | .cancel level => s.onRx (·.setCancel level)
  | .reset delivered => s.resetInput delivered

end Sys2Proof.Machine
end

