-- ==== Sys2Proof/Machine/Fetch.lean ====
section
/-! DEFINITION. The fetch. The RPE has no program counter and no instruction memory (R22, R55): what it does next is what the
environment presents next, the head of `feed` (log 1). -/

namespace Sys2Proof.Machine

/-- The next stimulus, and the state in which it is applied: it is taken off the schedule, and the outputs of the step before
are no longer presented. -/
def fetch (s : State) : Option Stim × State :=
  match s.feed with
  | [] => (none, s.quiet)
  | e :: rest => (some e, ({ s with feed := rest } : State).quiet)

/-- Place at the head of the schedule what stands at its interface for a row of the opcode table. -/
def placeTableWord (s : State) (nbits w : Nat) : State :=
  { s with feed := .txn (tableTxn nbits w) :: s.feed }

end Sys2Proof.Machine
end

