-- ==== Sys2Proof/Machine/Step.lean ====
section
/-! DEFINITION. One step: the next stimulus is applied; with none, both agents stay as they are (R196; log 19). -/

namespace Sys2Proof.Machine

/-- One step of the RPE. -/
def step (s : State) : Host.Outcome State Fault Refusal :=
  match fetch s with
  | (none, t) => .next t
  | (some (.txn x), t) =>
      match decode x with
      | .ok i => exec i t
      | .error e => .refused (.undecodable e)
  | (some e, t) => .next (applyStim e t)

/-- `s` with the operation a row of the opcode table stands for presented next. -/
def State.withFetchWord (s : State) (nbits w : Nat) : State := placeTableWord s nbits w

end Sys2Proof.Machine
end

