-- ==== Sys2Proof/Safety.lean ====
section
/-! DEFINITION. What claims are stated in: quiescence (R211), the two agents' operations (R13), the columns of the result
record (R27), and the invariant that every step keeps. -/

namespace Sys2Proof

/-- The frequency in megahertz that an operand stands for (R95). -/
def Mhz.value (f : Mhz) : ℚ := f.units / 10 ^ f.dp

/-- The bands of R7 (`F_BANDS`), bounds inclusive. -/
def inBands (q : ℚ) : Prop := (1 / 10 ≤ q ∧ q ≤ 34) ∨ (140 ≤ q ∧ q ≤ 150)

/-- The channel identifiers of R7 (`CHAN_IDS`). -/
def chanIds : List Byte := [0x00, 0x02, 0xFF]

/-- Every parameter of the command is inside the protocol's range (R107). -/
def Command.Valid : Command → Prop
  | .startIq => True
  | .stopIq => True
  | .setMode mode => mode.toNat ≤ 6
  | .setFreq chan f => inBands f.value ∧ chan ∈ chanIds

end Sys2Proof

namespace Sys2Proof.Machine

/-- Quiescent (R211): no request in progress and no session. -/
def State.quiescent (s : State) : Prop := s.ctl.busy = false ∧ s.rx.run = false

/-- Which agent an operation is of (R13, R33); the unit functions run on their own are neither's. -/
inductive Side where
  | control
  | receive
  | function
deriving DecidableEq, Repr

/-- The agent of each operation: requests, read answers and ROUNDTRIP are the control agent's, datagrams, RX_START and
ITERATE the receive agent's. -/
def side : Instr → Side
  | .encStartIq => .function
  | .encStopIq => .function
  | .encSetMode _ => .function
  | .encSetFreq _ _ => .function
  | .nak => .control
  | .ack _ => .control
  | .uci _ _ _ _ => .control
  | .uciMalformed _ _ _ => .control
  | .unknown _ => .control
  | .iq84Large _ _ _ => .receive
  | .iq84Small _ _ _ => .receive
  | .iq82Large _ _ _ => .receive
  | .iq82Small _ _ _ => .receive
  | .dgramMalformed _ => .receive
  | .startIq _ => .control
  | .stopIq _ => .control
  | .setMode _ => .control
  | .setFreq _ => .control
  | .connect _ => .control
  | .disconnect _ => .control
  | .reqReserved6 _ => .control
  | .reqReserved7 _ => .control
  | .rxStart => .receive
  | .iterate => .receive
  | .mhz2hz _ => .function
  | .hz2le40 _ => .function
  | .validate _ => .function
  | .admitCmd _ => .function
  | .roundtrip _ => .control
  | .parse _ => .function
  | .dgramCheck _ => .function
  | .extract _ => .function

/-- A request completed with the record `r` and no report: idle again, the record presented (R24, R27). -/
structure Control.Completed (c t : Control) (r : Res) : Prop where
  busy : t.busy = false
  wait : t.wait = .none
  res : t.res = r
  valid : t.resValid = true
  ev : t.ev = c.ev
  ev_valid : t.evValid = c.evValid

/-- A request in progress that waits at `w`: `busy` is 1 and no output and no connection state has changed (R24, R202). -/
structure Control.Pending (c t : Control) (w : CtlWait) : Prop where
  busy : t.busy = true
  wait : t.wait = w
  conn : t.conn = c.conn
  res : t.res = c.res
  valid : t.resValid = c.resValid
  ev : t.ev = c.ev
  ev_valid : t.evValid = c.evValid

/-- A round trip completed with the reply `B`, parsed as `p`: status OK, the fields of R27, and the report that goes with
the completion (R128). -/
structure Control.Answered (c t : Control) (B : List Byte) (p : Parse) : Prop where
  busy : t.busy = false
  wait : t.wait = .none
  resp : t.resp = B
  valid : t.resValid = true
  st : t.res.st = .ok
  vdet : t.res.vdet = 0
  xdet : t.res.xdet = 0
  n : t.res.n.toNat = B.length
  cls : t.res.cls = p.cls
  malformed : t.res.malformed = p.malformed
  item : t.res.item = p.item
  code : t.res.code = p.code
  plen : t.res.plen.toNat = p.plen
  ev : (t.ev, t.evValid) =
    if p.cls = .unknown then (.protocolError, true)
    else if p.malformed then (.malformedResponse, true)
    else (c.ev, c.evValid)

/-- An error record (R27): status and detail, everything else 0. -/
def errorRes (st : Code) (vdet : BitVec 3) (xdet : BitVec 1) : Res :=
  { st := st, vdet := vdet, xdet := xdet, n := 0, cls := .unknown, malformed := false, item := 0, code := 0, plen := 0 }

/-- The command a request stands for, with the `FREQ_DP` there is; none for the operations that are no command request. -/
def commandOf (dp : Nat) : Instr → Option Command
  | .startIq _ => some .startIq
  | .stopIq _ => some .stopIq
  | .setMode p => some (.setMode p.mode)
  | .setFreq p => some (.setFreq p.chan { units := p.freqQ.toNat, dp := dp })
  | .encStartIq => none
  | .encStopIq => none
  | .encSetMode _ => none
  | .encSetFreq _ _ => none
  | .nak => none
  | .ack _ => none
  | .uci _ _ _ _ => none
  | .uciMalformed _ _ _ => none
  | .unknown _ => none
  | .iq84Large _ _ _ => none
  | .iq84Small _ _ _ => none
  | .iq82Large _ _ _ => none
  | .iq82Small _ _ _ => none
  | .dgramMalformed _ => none
  | .connect _ => none
  | .disconnect _ => none
  | .reqReserved6 _ => none
  | .reqReserved7 _ => none
  | .rxStart => none
  | .iterate => none
  | .mhz2hz _ => none
  | .hz2le40 _ => none
  | .validate _ => none
  | .admitCmd _ => none
  | .roundtrip _ => none
  | .parse _ => none
  | .dgramCheck _ => none
  | .extract _ => none

/-- The eight host requests (R75, R76). -/
def isRequest (i : Instr) : Prop :=
  ∃ p, i = .startIq p ∨ i = .stopIq p ∨ i = .setMode p ∨ i = .setFreq p ∨ i = .connect p ∨ i = .disconnect p ∨
    i = .reqReserved6 p ∨ i = .reqReserved7 p

/-- The "valid when" column of R27: each field is 0 where it is not valid. -/
structure Res.Shaped (r : Res) : Prop where
  st_code : r.st ∈ [Code.ok, .connectionError, .stateError, .validationError, .transferError, .refused]
  vdet_iff : r.vdet ≠ 0 ↔ r.st = .validationError
  xdet_only : r.xdet ≠ 0 → r.st = .transferError
  n_range : r.n.toNat ≤ 1024
  n_only : r.st ≠ .ok → r.n = 0 ∧ r.cls = .unknown ∧ r.malformed = false
  item_only : r.cls ≠ .ack → r.item = 0
  code_only : r.cls = .uci ∧ r.malformed = false ∨ r.code = 0
  plen_only : r.cls = .uci ∧ r.malformed = false ∧ r.plen.toNat + 4 = r.n.toNat ∨ r.plen = 0

/-- The control agent's part of the invariant: among it that `CMD` holds, and the wire has got, frames of valid commands only
(R40, R74, R80). -/
structure Control.Inv (c : Control) : Prop where
  busy_iff : c.busy = true ↔ c.wait ≠ .none
  connect_wait : c.wait = .connect → c.conn = .disconnected ∧ c.tp.connectAns = []
  write_wait : c.wait = .write → c.tp.writeAns = []
  read_wait : c.wait = .read → c.tp.readAns = [] ∧ c.resp = []
  transfer_wait : c.wait = .write ∨ c.wait = .read → c.conn = .connected
  cmd_cap : c.cmd.length ≤ cmdCap
  cmd_frame : c.cmd = [] ∨ ∃ d : Command, d.Valid ∧ c.cmd = d.frame
  wire_frames : ∀ F, TpAct.write F ∈ c.tp.acts → ∃ d : Command, d.Valid ∧ F = d.frame
  resp_cap : c.resp.length ≤ respBuf
  res_shaped : Res.Shaped c.res
  res_quiet : c.resValid = false → c.res = resZero
  res_idle : c.resValid = true → c.busy = false
  ev_codes : c.evValid = true → c.ev = .protocolError ∨ c.ev = .malformedResponse
  ev_with_res : c.evValid = true → c.resValid = true ∧ c.res.st = .ok
  ev_quiet : c.evValid = false → c.ev = .ok

/-- The receive agent's part of the invariant. -/
structure Receive.Inv (r : Receive) : Prop where
  wait_runs : r.wait = true → r.run = true ∧ r.outcomes = []
  rose_waits : r.rose = true → r.wait = true
  dgram_cap : r.dgram.length ≤ dgramCap
  outcomes_cap : ∀ D, RxOutcome.dgram D ∈ r.outcomes → D.length ≤ dgramCap
  payloads : ∀ P, SinkAct.append P ∈ r.sink → P.length = 508 ∨ P.length = 1020
  end_codes : r.endValid = true → r.run = false ∧ r.endRsn ∈ [Code.socketError, .timeoutEnd, .cancelled]
  end_quiet : r.endValid = false → r.endRsn = .ok
  start_quiet : r.startValid = false → r.startSt = .ok
  start_codes : r.startValid = true → r.startSt = .ok ∨ r.startSt = .refused
  ev_codes : r.evValid = true → r.ev = .malformedPacket
  ev_quiet : r.evValid = false → r.ev = .ok

/-- The invariant of the machine. -/
structure State.Inv (s : State) : Prop where
  ctl : s.ctl.Inv
  rx : s.rx.Inv
  freq_dp : 6 ≤ s.params.freqDp

end Sys2Proof.Machine
end

