-- ==== Sys2Proof/Certificates/Slice0/Obligations.lean ====
section
/-! DEFINITION. The statements for the provers. No statement names the value of the operand registers after a completion or of
the counter `free`: what they hold there is free (log 7). -/

open Sys2Proof Sys2Proof.Machine

/-! ### Encoding -/

/-- Every well-formed operation, with every operand, is read back from its encoding (30_encoding.md). -/
def Obligations.DecodeEncodeEveryInstruction : Prop :=
  ∀ i : Instr, wellFormed i = true → decode (encode i) = .ok i

/-- The decoder yields well-formed operations only. -/
def Obligations.DecodedInstructionWellFormed : Prop :=
  ∀ (x : Txn) (i : Instr), decode x = .ok i → wellFormed i = true

/-- On the four coded formats the encoding of what was read is what stood there: no bit is dropped. -/
def Obligations.EncodeDecodeWireFormats : Prop :=
  (∀ B, encode (decodeResp B) = .resp B) ∧
  (∀ D i, decodeDgram D = .ok i → encode i = .dgram 0 D) ∧
  (∀ bytes i, decodeCmd bytes = .ok i → encode i = .cmd bytes) ∧
  (∀ op p, encode (decodeReq op p) = .req op p)

/-- Words written out from the frame layouts of R63 to R70 and the request codes of R75 decode to their operations. -/
def Obligations.WrittenOutWordsDecode : Prop :=
  decode (.cmd [0x08, 0x00, 0x18, 0x00, 0x80, 0x02, 0x80, 0x00]) = .ok .encStartIq ∧
  decode (.cmd [0x05, 0x00, 0x19, 0x00, 0x03]) = .ok (.encSetMode 3) ∧
  decode (.cmd [0x0A, 0x00, 0x20, 0x00, 0x02, 0x60, 0x27, 0xAC, 0x08, 0x00]) =
    .ok (.encSetFreq 2 { units := 145500000, dp := 6 }) ∧
  decode (.resp [0x02, 0x00]) = .ok .nak ∧
  decode (.resp [0x03, 0x60, 0x02]) = .ok (.ack 2) ∧
  decode (.resp [0x06, 0x21, 0x34, 0x12, 0xAA, 0xBB]) = .ok (.uci 6 4 0x1234 [0xAA, 0xBB]) ∧
  decode (.req 4 { mode := 0, chan := 0, freqQ := 0 }) = .ok (.connect { mode := 0, chan := 0, freqQ := 0 })

/-- R71, R117, R145, R148: the decoders of response buffers and of datagrams, written from the layouts, agree with PARSE and
DGRAM_CHECK, written from the ordered tests, on every buffer and every datagram. -/
def Obligations.DecodersAgreeWithClassifiers : Prop :=
  (∀ B : List Byte,
    (decodeResp B = .nak ↔ (parse B).cls = .nak) ∧
    ((∃ item, decodeResp B = .ack item) ↔ (parse B).cls = .ack) ∧
    ((∃ b0 hi code ps, decodeResp B = .uci b0 hi code ps) ↔ (parse B).cls = .uci ∧ (parse B).malformed = false) ∧
    ((∃ b0 hi b2, decodeResp B = .uciMalformed b0 hi b2) ↔ (parse B).cls = .uci ∧ (parse B).malformed = true) ∧
    (decodeResp B = .unknown B ↔ (parse B).cls = .unknown)) ∧
  (∀ D : List Byte, D.length ≤ 65535 →
    (dgramCheck D = true ↔ ∃ r0 r1 payload,
      decodeDgram D = .ok (.iq84Large r0 r1 payload) ∨ decodeDgram D = .ok (.iq84Small r0 r1 payload) ∨
      decodeDgram D = .ok (.iq82Large r0 r1 payload) ∨ decodeDgram D = .ok (.iq82Small r0 r1 payload)) ∧
    (dgramCheck D = false ↔ decodeDgram D = .ok (.dgramMalformed D)))

/-! ### FENC -/

/-- R90: MHZ2HZ is the integer part of the exact product; with `FREQ_DP` at least 6 it is one integer division and never
exceeds the scaled operand. -/
def Obligations.Mhz2HzIsExactFloor : Prop :=
  ∀ (f : Mhz) (s : State), ∃ hz,
    exec (.mhz2hz f) s = .next { s with fn := .hz hz } ∧ hz = ⌊f.value * 1000000⌋₊ ∧
    (6 ≤ f.dp → hz = f.units / 10 ^ (f.dp - 6) ∧ hz ≤ f.units)

/-- R91: HZ2LE40 gives exactly five bytes, byte `i` being `(hz >> 8i) & 0xFF`; bits 40 and above leave no trace. -/
def Obligations.HertzFieldIsFiveLittleEndianBytes : Prop :=
  ∀ (hz : Nat) (s : State), ∃ FQ : List Byte,
    exec (.hz2le40 hz) s = .next { s with fn := .field FQ } ∧ FQ.length = 5 ∧
    (∀ i, i < 5 → FQ[i]? = some (BitVec.ofNat 8 ((hz >>> (8 * i)) % 256))) ∧
    FQ = hz2le40 (hz % 2 ^ 40)

/-- R93. -/
def Obligations.FrequencyFieldRoundTrip : Prop :=
  (∀ hz, hz < 2 ^ 40 → leUint (hz2le40 hz) = hz) ∧
  (∀ hz, leUint (hz2le40 hz) = hz % 2 ^ 40) ∧
  (∀ FQ : List Byte, FQ.length = 5 → hz2le40 (leUint FQ) = FQ)

/-- R92, R66, R67: ENC_SET_FREQ gives ten bytes for every channel byte and every frequency, checked or not. -/
def Obligations.SetFreqFrameEncoded : Prop :=
  ∀ (chan : Byte) (f : Mhz) (s : State), ∃ FQ : List Byte,
    exec (.encSetFreq chan f) s = .next { s with fn := .frame ([0x0A, 0x00, 0x20, 0x00, chan] ++ FQ) } ∧
    FQ.length = 5 ∧ leUint FQ = ⌊f.value * 1000000⌋₊ % 2 ^ 40

/-! ### CENC -/

/-- R103, R104, R105. -/
def Obligations.TemplateFramesEncoded : Prop :=
  ∀ s : State,
    exec .encStartIq s = .next { s with fn := .frame [0x08, 0x00, 0x18, 0x00, 0x80, 0x02, 0x80, 0x00] } ∧
    exec .encStopIq s = .next { s with fn := .frame [0x08, 0x00, 0x18, 0x00, 0x00, 0x01, 0x00, 0x00] } ∧
    ∀ mode, exec (.encSetMode mode) s = .next { s with fn := .frame [0x05, 0x00, 0x19, 0x00, mode] }

/-- R108, R62, R80: declared length is the byte count, the opcode is the command's, and the encoders are injective on their
operands. -/
def Obligations.EncodersLengthOpcodeInjective : Prop :=
  (∀ c : Command, readLe c.frame 0 2 = some c.frame.length) ∧
  readLe Command.startIq.frame 2 2 = some 0x0018 ∧
  readLe Command.stopIq.frame 2 2 = some 0x0018 ∧
  (∀ mode, readLe (Command.setMode mode).frame 2 2 = some 0x0019) ∧
  (∀ chan f, readLe (Command.setFreq chan f).frame 2 2 = some 0x0020) ∧
  (∀ m m', (Command.setMode m).frame = (Command.setMode m').frame → m = m') ∧
  (∀ c f c' f', (Command.setFreq c f).frame = (Command.setFreq c' f').frame →
    c = c' ∧ mhz2hz f % 2 ^ 40 = mhz2hz f' % 2 ^ 40)

/-- R102: the band check is exact on the frequency itself, before any truncation. -/
def Obligations.ValidFrequencyIsExactBands : Prop :=
  ∀ f : Mhz, validFreq f = true ↔ inBands f.value

/-- R107, R100, R101: VALIDATE marks every violated parameter, and raises exactly if there is one. -/
def Obligations.ValidateMarksEveryViolation : Prop :=
  ∀ (c : Command) (s : State), ∃ st vdet,
    exec (.validate c) s = .next { s with fn := .checked st vdet } ∧
    (c.Valid → st = .ok ∧ vdet = 0) ∧ (¬ c.Valid → st = .validationError ∧ vdet ≠ 0) ∧
    (vdet.getLsbD 0 = true ↔ ∃ chan f, c = .setFreq chan f ∧ ¬ inBands f.value) ∧
    (vdet.getLsbD 1 = true ↔ ∃ chan f, c = .setFreq chan f ∧ chan ∉ chanIds) ∧
    (vdet.getLsbD 2 = true ↔ ∃ mode, c = .setMode mode ∧ 6 < mode.toNat)

/-! ### RPAR -/

/-- R110, R111, R117, R118: the full partition of response buffers, every field given, and PARSE run on its own gives it. -/
def Obligations.ParsePartition : Prop :=
  (∀ (B : List Byte) (s : State), exec (.parse B) s = .next { s with fn := .parsed (parse B) }) ∧
  parse [] = { cls := .unknown, malformed := false, item := 0, code := 0, plen := 0 } ∧
  (∀ b0, parse [b0] = { cls := .unknown, malformed := false, item := 0, code := 0, plen := 0 }) ∧
  (∀ b0 b1 : Byte, parse [b0, b1] =
    { cls := if b0 = 0x02 ∧ b1 = 0x00 then .nak else .unknown, malformed := false, item := 0, code := 0, plen := 0 }) ∧
  (∀ b0 b1 b2 : Byte, parse [b0, b1, b2] =
    if b0 = 0x03 ∧ b1 = 0x60 then
      { cls := .ack, malformed := decide (3 < b2.toNat), item := b2, code := 0, plen := 0 }
    else if b1 &&& 0x07 = 0x01 then { cls := .uci, malformed := true, item := 0, code := 0, plen := 0 }
    else { cls := .unknown, malformed := false, item := 0, code := 0, plen := 0 }) ∧
  (∀ (b0 b1 b2 b3 : Byte) (ps : List Byte), parse (b0 :: b1 :: b2 :: b3 :: ps) =
    if b1 &&& 0x07 = 0x01 then
      { cls := .uci, malformed := false, item := 0, code := BitVec.ofNat 16 (b2.toNat + 256 * b3.toNat), plen := ps.length }
    else { cls := .unknown, malformed := false, item := 0, code := 0, plen := 0 })

/-- R112: a NAK is the reply of the round trip that waits for its read. -/
def Obligations.NakAnswersRead : Prop :=
  ∀ s : State, s.ctl.wait = .read → s.ctl.tp.readAns = [] → ∃ t, exec .nak s = .next t ∧ t = { s with ctl := t.ctl } ∧
    s.ctl.Answered t.ctl [0x02, 0x00] { cls := .nak, malformed := false, item := 0, code := 0, plen := 0 } ∧
    t.ctl.conn = s.ctl.conn ∧ t.ctl.cmd = s.ctl.cmd ∧ t.ctl.tp = s.ctl.tp

/-- R113: an ACK is reported with its item in full, flagged malformed above 3, never rejected. -/
def Obligations.AckAnswersRead : Prop :=
  ∀ (item : Byte) (s : State), s.ctl.wait = .read → s.ctl.tp.readAns = [] →
    ∃ t, exec (.ack item) s = .next t ∧ t = { s with ctl := t.ctl } ∧
    s.ctl.Answered t.ctl [0x03, 0x60, item]
      { cls := .ack, malformed := decide (3 < item.toNat), item := item, code := 0, plen := 0 } ∧
    t.ctl.conn = s.ctl.conn ∧ t.ctl.cmd = s.ctl.cmd ∧ t.ctl.tp = s.ctl.tp

/-- R114: an unsolicited item that fits the response buffer, whatever byte 0 and the high bits of byte 1 are. -/
def Obligations.UciAnswersRead : Prop :=
  ∀ (b0 : Byte) (hi : BitVec 5) (code : BitVec 16) (params : List Byte) (s : State),
    params.length ≤ 1020 → s.ctl.wait = .read → s.ctl.tp.readAns = [] →
    ∃ (t : State) (b1 c0 c1 : Byte), exec (.uci b0 hi code params) s = .next t ∧ t = { s with ctl := t.ctl } ∧
    b1 &&& 0x07 = 0x01 ∧ b1 >>> 3 = hi.setWidth 8 ∧ c0.toNat + 256 * c1.toNat = code.toNat ∧
    s.ctl.Answered t.ctl (b0 :: b1 :: c0 :: c1 :: params)
      { cls := .uci, malformed := false, item := 0, code := code, plen := params.length } ∧
    t.ctl.conn = s.ctl.conn ∧ t.ctl.cmd = s.ctl.cmd ∧ t.ctl.tp = s.ctl.tp

/-- R115: three bytes that match the unsolicited-item test are UCI flagged malformed, with no field. -/
def Obligations.ShortUciAnswersRead : Prop :=
  ∀ (b0 : Byte) (hi : BitVec 5) (b2 : Byte) (s : State), s.ctl.wait = .read → s.ctl.tp.readAns = [] →
    ∃ (t : State) (b1 : Byte), exec (.uciMalformed b0 hi b2) s = .next t ∧ t = { s with ctl := t.ctl } ∧
    b1 &&& 0x07 = 0x01 ∧ b1 >>> 3 = hi.setWidth 8 ∧
    s.ctl.Answered t.ctl [b0, b1, b2] { cls := .uci, malformed := true, item := 0, code := 0, plen := 0 } ∧
    t.ctl.conn = s.ctl.conn ∧ t.ctl.cmd = s.ctl.cmd ∧ t.ctl.tp = s.ctl.tp

/-- R116, R177: bytes of no known frame complete the round trip with class UNKNOWN and the report ProtocolError. -/
def Obligations.UnknownAnswersRead : Prop :=
  ∀ (raw : List Byte) (s : State), wellFormed (.unknown raw) = true → raw.length ≤ 1024 →
    s.ctl.wait = .read → s.ctl.tp.readAns = [] →
    ∃ t, exec (.unknown raw) s = .next t ∧ t = { s with ctl := t.ctl } ∧
    s.ctl.Answered t.ctl raw { cls := .unknown, malformed := false, item := 0, code := 0, plen := 0 } ∧
    t.ctl.ev = .protocolError ∧ t.ctl.evValid = true ∧
    t.ctl.conn = s.ctl.conn ∧ t.ctl.cmd = s.ctl.cmd ∧ t.ctl.tp = s.ctl.tp

/-- R138, R30: of a reply longer than 1024 bytes the one read takes the first 1024, which are parsed as if they were all; the
rest stays in the transport for the next read. -/
def Obligations.OverlongReplyIsCut : Prop :=
  ∀ (i : Instr) (B : List Byte) (s : State), encode i = .resp B → 1024 < B.length →
    s.ctl.wait = .read → s.ctl.tp.readAns = [] →
    ∃ t, exec i s = .next t ∧ t = { s with ctl := t.ctl } ∧
    s.ctl.Answered t.ctl (B.take 1024) (parse (B.take 1024)) ∧
    t.ctl.tp = { s.ctl.tp with readAns := [.data (B.drop 1024)] } ∧
    t.ctl.conn = s.ctl.conn ∧ t.ctl.cmd = s.ctl.cmd

/-- R30, R137: bytes that come while no read is in progress stay in the transport, behind those already there, and nothing
else changes. -/
def Obligations.UnreadReplyStaysInTransport : Prop :=
  ∀ (i : Instr) (B : List Byte) (s : State), encode i = .resp B →
    (s.ctl.wait = .none ∨ (s.ctl.wait = .connect ∧ s.ctl.tp.connectAns = []) ∨
      (s.ctl.wait = .write ∧ s.ctl.tp.writeAns = [])) →
    exec i s = .next { s with ctl := { s.ctl with tp := { s.ctl.tp with readAns := s.ctl.tp.readAns ++ [.data B] } } }

/-! ### CCTL -/

/-- R127 to R132, R138: a command request with valid parameters, made while connected and idle, hands exactly its frame to the
transport, reads once, and completes with the parsed reply. Of a reply longer than 1024 bytes that is the first 1024; that
the rest is what the next read finds is log 12. -/
def Obligations.CommandRoundTripCompletes : Prop :=
  ∀ (i : Instr) (c : Command) (s : State) (ws : List WriteAns) (B : List Byte) (rs : List ReadAns),
    commandOf s.params.freqDp i = some c → c.Valid → s.ctl.busy = false → s.ctl.conn = .connected →
    s.ctl.tp.writeAns = .ok :: ws → s.ctl.tp.readAns = .data B :: rs →
    ∃ t, exec i s = .next t ∧ t = { s with ctl := t.ctl } ∧ s.ctl.Answered t.ctl (B.take 1024) (parse (B.take 1024)) ∧
    t.ctl.conn = .connected ∧ t.ctl.cmd = c.frame ∧
    t.ctl.tp = { s.ctl.tp with
      writeAns := ws, readAns := if 1024 < B.length then .data (B.drop 1024) :: rs else rs, acts := s.ctl.tp.acts ++ [.write c.frame, .read],
      delivered := s.ctl.tp.delivered ++ c.frame }

/-- R172: a command request with valid parameters while disconnected is a StateError before any I/O. -/
def Obligations.CommandWhileDisconnectedIsStateError : Prop :=
  ∀ (i : Instr) (c : Command) (s : State),
    commandOf s.params.freqDp i = some c → c.Valid → s.ctl.busy = false → s.ctl.conn = .disconnected →
    ∃ t, exec i s = .next t ∧ t = { s with ctl := t.ctl } ∧
    s.ctl.Completed t.ctl (errorRes .stateError 0 0) ∧ t.ctl.conn = .disconnected ∧
    t.ctl.cmd = s.ctl.cmd ∧ t.ctl.resp = s.ctl.resp ∧ t.ctl.tp = s.ctl.tp

/-- R173: a parameter out of range is a ValidationError in either connection state, before any byte is built or sent; the
mask marks the violated parameters. -/
def Obligations.InvalidParameterIsValidationError : Prop :=
  ∀ (i : Instr) (c : Command) (s : State),
    commandOf s.params.freqDp i = some c → ¬ c.Valid → s.ctl.busy = false →
    ∃ t vdet, exec i s = .next t ∧ t = { s with ctl := t.ctl } ∧
    s.ctl.Completed t.ctl (errorRes .validationError vdet 0) ∧ t.ctl.res.st.bits = 3 ∧ vdet ≠ 0 ∧ vdet = vdetOf c ∧ t.ctl.conn = s.ctl.conn ∧
    t.ctl.cmd = s.ctl.cmd ∧ t.ctl.resp = s.ctl.resp ∧ t.ctl.tp = s.ctl.tp

/-- R134, R174: a failed write completes with TransferError and no read; some prefix of the frame reached the device. R134 leaves open how
much of it did, and U4 admits any prefix: that the environment's answer says it, as a number of bytes, is log 11. -/
def Obligations.WriteFailureIsTransferError : Prop :=
  ∀ (i : Instr) (c : Command) (s : State) (k : Nat) (ws : List WriteAns),
    commandOf s.params.freqDp i = some c → c.Valid → s.ctl.busy = false → s.ctl.conn = .connected →
    s.ctl.tp.writeAns = .fail k :: ws →
    ∃ t, exec i s = .next t ∧ t = { s with ctl := t.ctl } ∧
    s.ctl.Completed t.ctl (errorRes .transferError 0 0) ∧ t.ctl.conn = .connected ∧
    t.ctl.cmd = c.frame ∧ t.ctl.resp = s.ctl.resp ∧
    t.ctl.tp = { s.ctl.tp with
      writeAns := ws, acts := s.ctl.tp.acts ++ [.write c.frame],
      delivered := s.ctl.tp.delivered ++ c.frame.take k }

/-- R135, R174: a failed read completes with TransferError after the whole command was sent; nothing is read or sent again.
That `RESP` is empty then is the model's choice (log 8). -/
def Obligations.ReadFailureIsTransferError : Prop :=
  ∀ (i : Instr) (c : Command) (s : State) (ws : List WriteAns) (rs : List ReadAns),
    commandOf s.params.freqDp i = some c → c.Valid → s.ctl.busy = false → s.ctl.conn = .connected →
    s.ctl.tp.writeAns = .ok :: ws → s.ctl.tp.readAns = .fail :: rs →
    ∃ t, exec i s = .next t ∧ t = { s with ctl := t.ctl } ∧
    s.ctl.Completed t.ctl (errorRes .transferError 0 1) ∧ t.ctl.conn = .connected ∧ t.ctl.cmd = c.frame ∧
    t.ctl.resp = [] ∧ t.ctl.tp = { s.ctl.tp with
      writeAns := ws, readAns := rs, acts := s.ctl.tp.acts ++ [.write c.frame, .read],
      delivered := s.ctl.tp.delivered ++ c.frame }

/-- R202, U13: an admitted command whose write or read the transport does not answer stays in progress: `busy` is 1, no
result is presented, and it waits at the write or at the read. That `RESP` is empty during a read is the model's choice
(log 8). -/
def Obligations.UnansweredCommandStaysBusy : Prop :=
  ∀ (i : Instr) (c : Command) (s : State),
    commandOf s.params.freqDp i = some c → c.Valid → s.ctl.busy = false → s.ctl.conn = .connected →
    (s.ctl.tp.writeAns = [] → ∃ t, exec i s = .next t ∧ t = { s with ctl := t.ctl } ∧
      s.ctl.Pending t.ctl .write ∧ t.ctl.cmd = c.frame ∧ t.ctl.resp = s.ctl.resp ∧
      t.ctl.tp = { s.ctl.tp with acts := s.ctl.tp.acts ++ [.write c.frame] }) ∧
    (∀ ws, s.ctl.tp.writeAns = .ok :: ws → s.ctl.tp.readAns = [] → ∃ t, exec i s = .next t ∧ t = { s with ctl := t.ctl } ∧
      s.ctl.Pending t.ctl .read ∧ t.ctl.cmd = c.frame ∧ t.ctl.resp = [] ∧
      t.ctl.tp = { s.ctl.tp with
        writeAns := ws, acts := s.ctl.tp.acts ++ [.write c.frame, .read],
        delivered := s.ctl.tp.delivered ++ c.frame })

/-- R24, R133: while `busy` is 1 no host request is accepted; it changes nothing. -/
def Obligations.BusyAcceptsNoRequest : Prop :=
  ∀ (i : Instr) (s : State), isRequest i → s.ctl.busy = true → exec i s = .next s

/-- R21, R24: an accepted request that waits for the transport, at the connect, the write or the read, has `busy` set and its
code and operand ports in the operand registers; they are constant until it completes. That an unanswered CONNECT stays in
progress like a write and a read is the model's reading of R202 (log 3). -/
def Obligations.WaitingRequestHoldsOperands : Prop :=
  (∀ (p : Ports) (s : State), s.ctl.busy = false →
    (s.ctl.conn = .disconnected → s.ctl.tp.connectAns = [] →
      ∃ t, exec (.connect p) s = .next t ∧ t.ctl.busy = true ∧ t.ctl.op = { code := 4, ports := p }) ∧
    (s.ctl.conn = .connected →
      s.ctl.tp.writeAns = [] ∨ (∃ ws, s.ctl.tp.writeAns = .ok :: ws ∧ s.ctl.tp.readAns = []) →
      (∃ t, exec (.startIq p) s = .next t ∧ t.ctl.busy = true ∧ t.ctl.op = { code := 0, ports := p }) ∧
      (∃ t, exec (.stopIq p) s = .next t ∧ t.ctl.busy = true ∧ t.ctl.op = { code := 1, ports := p }) ∧
      (p.mode.toNat ≤ 6 →
        ∃ t, exec (.setMode p) s = .next t ∧ t.ctl.busy = true ∧ t.ctl.op = { code := 2, ports := p }) ∧
      (inBands (Mhz.value { units := p.freqQ.toNat, dp := s.params.freqDp }) → p.chan ∈ chanIds →
        ∃ t, exec (.setFreq p) s = .next t ∧ t.ctl.busy = true ∧ t.ctl.op = { code := 3, ports := p }))) ∧
  (∀ s t : State, step s = .next t → s.ctl.busy = true → t.ctl.busy = true → t.ctl.op = s.ctl.op)

/-- R125: CONNECT while disconnected: connected on ok, ConnectionError and still disconnected on failure, in progress while
there is no answer; nothing is written or read. That it stays in progress is the model's reading (log 3), and that the
transport's other answers stay ready is its choice (log 2). -/
def Obligations.ConnectOutcomes : Prop :=
  ∀ (p : Ports) (s : State), s.ctl.busy = false → s.ctl.conn = .disconnected →
    (∀ cs, s.ctl.tp.connectAns = true :: cs → ∃ t, exec (.connect p) s = .next t ∧ t = { s with ctl := t.ctl } ∧
      s.ctl.Completed t.ctl resZero ∧ t.ctl.conn = .connected ∧ t.ctl.cmd = s.ctl.cmd ∧ t.ctl.resp = s.ctl.resp ∧
      t.ctl.tp = { s.ctl.tp with connectAns := cs, acts := s.ctl.tp.acts ++ [.connect] }) ∧
    (∀ cs, s.ctl.tp.connectAns = false :: cs → ∃ t, exec (.connect p) s = .next t ∧ t = { s with ctl := t.ctl } ∧
      s.ctl.Completed t.ctl (errorRes .connectionError 0 0) ∧ t.ctl.res.st.bits = 1 ∧ t.ctl.conn = .disconnected ∧
      t.ctl.cmd = s.ctl.cmd ∧ t.ctl.resp = s.ctl.resp ∧
      t.ctl.tp = { s.ctl.tp with connectAns := cs, acts := s.ctl.tp.acts ++ [.connect] }) ∧
    (s.ctl.tp.connectAns = [] → ∃ t, exec (.connect p) s = .next t ∧ t = { s with ctl := t.ctl } ∧
      s.ctl.Pending t.ctl .connect ∧ t.ctl.cmd = s.ctl.cmd ∧ t.ctl.resp = s.ctl.resp ∧
      t.ctl.tp = { s.ctl.tp with acts := s.ctl.tp.acts ++ [.connect] })

/-- R139, R178: CONNECT while connected completes with Refused and changes nothing. Taking the hardware effect and not a
refusal of the model is the model's choice (log 5). -/
def Obligations.ConnectWhileConnectedRefused : Prop :=
  ∀ (p : Ports) (s : State), s.ctl.busy = false → s.ctl.conn = .connected →
    ∃ t, exec (.connect p) s = .next t ∧ t = { s with ctl := t.ctl } ∧
    s.ctl.Completed t.ctl (errorRes .refused 0 0) ∧ t.ctl.conn = .connected ∧
    t.ctl.cmd = s.ctl.cmd ∧ t.ctl.resp = s.ctl.resp ∧ t.ctl.tp = s.ctl.tp

/-- R76: the reserved request codes complete with Refused; no state changes, nothing is emitted (log 5). -/
def Obligations.ReservedCodesRefused : Prop :=
  ∀ (i : Instr) (p : Ports) (s : State), i = .reqReserved6 p ∨ i = .reqReserved7 p → s.ctl.busy = false →
    ∃ t, exec i s = .next t ∧ t = { s with ctl := t.ctl } ∧
    s.ctl.Completed t.ctl (errorRes .refused 0 0) ∧ t.ctl.conn = s.ctl.conn ∧
    t.ctl.cmd = s.ctl.cmd ∧ t.ctl.resp = s.ctl.resp ∧ t.ctl.tp = s.ctl.tp

/-- R126: DISCONNECT always completes OK and leaves the channel disconnected; `close` is asked only if it was connected.
That what the transport holds ready survives `close` is the model's choice (log 2). -/
def Obligations.DisconnectNeverFails : Prop :=
  ∀ (p : Ports) (s : State), s.ctl.busy = false →
    ∃ t, exec (.disconnect p) s = .next t ∧ t = { s with ctl := t.ctl } ∧
    s.ctl.Completed t.ctl resZero ∧ t.ctl.conn = .disconnected ∧ t.ctl.cmd = s.ctl.cmd ∧ t.ctl.resp = s.ctl.resp ∧
    t.ctl.tp = { s.ctl.tp with
      acts := s.ctl.tp.acts ++ (if s.ctl.conn = .connected then [.close] else []) }

/-- R127: ADMIT on its own: an invalid parameter is ValidationError in either connection state; StateError only if every
parameter is valid. -/
def Obligations.AdmissionOrder : Prop :=
  ∀ (c : Command) (s : State), ∃ st vdet,
    exec (.admitCmd c) s = .next { s with fn := .checked st vdet } ∧
    (¬ c.Valid → st = .validationError ∧ vdet ≠ 0) ∧
    (c.Valid → s.ctl.conn = .disconnected → st = .stateError ∧ vdet = 0) ∧
    (c.Valid → s.ctl.conn = .connected → st = .ok ∧ vdet = 0)

/-- R128, R134, R135, R138: ROUNDTRIP on its own, for an admitted command and an idle agent: the reply that is read (of one
longer than 1024 bytes the first 1024, log 12), the failed write (log 11), the failed read, and the waits. That it takes the
frames of admitted commands and otherwise does nothing is the model's choice (log 13). -/
def Obligations.RoundTripAlone : Prop :=
  ∀ (c : Command) (s : State),
  (c.Valid → s.ctl.busy = false → s.ctl.conn = .connected →
    (∀ ws B rs, s.ctl.tp.writeAns = .ok :: ws → s.ctl.tp.readAns = .data B :: rs →
      ∃ t, exec (.roundtrip c) s = .next t ∧ t = { s with ctl := t.ctl } ∧
      s.ctl.Answered t.ctl (B.take 1024) (parse (B.take 1024)) ∧ t.ctl.conn = .connected ∧ t.ctl.cmd = c.frame ∧
      t.ctl.tp = { s.ctl.tp with
        writeAns := ws, readAns := if 1024 < B.length then .data (B.drop 1024) :: rs else rs,
        acts := s.ctl.tp.acts ++ [.write c.frame, .read], delivered := s.ctl.tp.delivered ++ c.frame }) ∧
    (∀ k ws, s.ctl.tp.writeAns = .fail k :: ws →
      ∃ t, exec (.roundtrip c) s = .next t ∧ t = { s with ctl := t.ctl } ∧
      s.ctl.Completed t.ctl (errorRes .transferError 0 0) ∧ t.ctl.conn = .connected ∧ t.ctl.cmd = c.frame ∧
      t.ctl.resp = s.ctl.resp ∧
      t.ctl.tp = { s.ctl.tp with
        writeAns := ws, acts := s.ctl.tp.acts ++ [.write c.frame],
        delivered := s.ctl.tp.delivered ++ c.frame.take k }) ∧
    (∀ ws rs, s.ctl.tp.writeAns = .ok :: ws → s.ctl.tp.readAns = .fail :: rs →
      ∃ t, exec (.roundtrip c) s = .next t ∧ t = { s with ctl := t.ctl } ∧
      s.ctl.Completed t.ctl (errorRes .transferError 0 1) ∧ t.ctl.conn = .connected ∧ t.ctl.cmd = c.frame ∧
      t.ctl.resp = [] ∧
      t.ctl.tp = { s.ctl.tp with
        writeAns := ws, readAns := rs, acts := s.ctl.tp.acts ++ [.write c.frame, .read],
        delivered := s.ctl.tp.delivered ++ c.frame }) ∧
    (s.ctl.tp.writeAns = [] →
      ∃ t, exec (.roundtrip c) s = .next t ∧ t = { s with ctl := t.ctl } ∧
      s.ctl.Pending t.ctl .write ∧ t.ctl.cmd = c.frame ∧ t.ctl.resp = s.ctl.resp ∧ t.ctl.op = s.ctl.op ∧
      t.ctl.tp = { s.ctl.tp with acts := s.ctl.tp.acts ++ [.write c.frame] }) ∧
    (∀ ws, s.ctl.tp.writeAns = .ok :: ws → s.ctl.tp.readAns = [] →
      ∃ t, exec (.roundtrip c) s = .next t ∧ t = { s with ctl := t.ctl } ∧
      s.ctl.Pending t.ctl .read ∧ t.ctl.cmd = c.frame ∧ t.ctl.resp = [] ∧ t.ctl.op = s.ctl.op ∧
      t.ctl.tp = { s.ctl.tp with
        writeAns := ws, acts := s.ctl.tp.acts ++ [.write c.frame, .read],
        delivered := s.ctl.tp.delivered ++ c.frame })) ∧
  (¬ c.Valid ∨ s.ctl.busy = true ∨ s.ctl.conn = .disconnected → exec (.roundtrip c) s = .next s)

/-- R125, R128, R134, R135: an answer that comes while a request waits for it lets that request go on: the connect is
completed, the written frame is followed by the read with whatever answer is there for it, a failed write or read is
completed as TransferError. The waiting connect is log 3, the prefix a failed write delivers log 11, the empty `RESP` during a
read log 8, the rest of an overlong reply log 12. -/
def Obligations.LateAnswerResumesRequest : Prop :=
  ∀ (s : State) (e : Stim) (rest : List Stim), s.feed = e :: rest →
    (∀ ok, e = .connectAns ok → s.ctl.wait = .connect → s.ctl.tp.connectAns = [] → ∃ t, step s = .next t ∧
      t = { s with ctl := t.ctl, rx := s.rx.quiet, feed := rest } ∧
      s.ctl.quiet.Completed t.ctl (if ok then resZero else errorRes .connectionError 0 0) ∧
      t.ctl.conn = (if ok then .connected else s.ctl.conn) ∧
      t.ctl.cmd = s.ctl.cmd ∧ t.ctl.resp = s.ctl.resp ∧ t.ctl.tp = s.ctl.tp) ∧
    (e = .writeAns .ok → s.ctl.busy = true → s.ctl.wait = .write → s.ctl.tp.writeAns = [] → s.ctl.tp.readAns = [] →
      ∃ t, step s = .next t ∧ t = { s with ctl := t.ctl, rx := s.rx.quiet, feed := rest } ∧
      s.ctl.quiet.Pending t.ctl .read ∧ t.ctl.op = s.ctl.op ∧ t.ctl.cmd = s.ctl.cmd ∧ t.ctl.resp = [] ∧
      t.ctl.tp = { s.ctl.tp with
        acts := s.ctl.tp.acts ++ [.read], delivered := s.ctl.tp.delivered ++ s.ctl.cmd }) ∧
    (∀ B rs, e = .writeAns .ok → s.ctl.wait = .write → s.ctl.tp.writeAns = [] → s.ctl.tp.readAns = .data B :: rs →
      ∃ t, step s = .next t ∧ t = { s with ctl := t.ctl, rx := s.rx.quiet, feed := rest } ∧
      s.ctl.quiet.Answered t.ctl (B.take 1024) (parse (B.take 1024)) ∧ t.ctl.conn = s.ctl.conn ∧ t.ctl.cmd = s.ctl.cmd ∧
      t.ctl.tp = { s.ctl.tp with
        readAns := if 1024 < B.length then .data (B.drop 1024) :: rs else rs,
        acts := s.ctl.tp.acts ++ [.read], delivered := s.ctl.tp.delivered ++ s.ctl.cmd }) ∧
    (∀ rs, e = .writeAns .ok → s.ctl.wait = .write → s.ctl.tp.writeAns = [] → s.ctl.tp.readAns = .fail :: rs →
      ∃ t, step s = .next t ∧ t = { s with ctl := t.ctl, rx := s.rx.quiet, feed := rest } ∧
      s.ctl.quiet.Completed t.ctl (errorRes .transferError 0 1) ∧ t.ctl.conn = s.ctl.conn ∧
      t.ctl.cmd = s.ctl.cmd ∧ t.ctl.resp = [] ∧
      t.ctl.tp = { s.ctl.tp with
        readAns := rs, acts := s.ctl.tp.acts ++ [.read], delivered := s.ctl.tp.delivered ++ s.ctl.cmd }) ∧
    (∀ k, e = .writeAns (.fail k) → s.ctl.wait = .write → s.ctl.tp.writeAns = [] → ∃ t, step s = .next t ∧
      t = { s with ctl := t.ctl, rx := s.rx.quiet, feed := rest } ∧
      s.ctl.quiet.Completed t.ctl (errorRes .transferError 0 0) ∧ t.ctl.conn = s.ctl.conn ∧
      t.ctl.cmd = s.ctl.cmd ∧ t.ctl.resp = s.ctl.resp ∧
      t.ctl.tp = { s.ctl.tp with delivered := s.ctl.tp.delivered ++ s.ctl.cmd.take k }) ∧
    (e = .readFail → s.ctl.wait = .read → s.ctl.tp.readAns = [] → ∃ t, step s = .next t ∧
      t = { s with ctl := t.ctl, rx := s.rx.quiet, feed := rest } ∧
      s.ctl.quiet.Completed t.ctl (errorRes .transferError 0 1) ∧ t.ctl.conn = s.ctl.conn ∧
      t.ctl.cmd = s.ctl.cmd ∧ t.ctl.resp = s.ctl.resp ∧ t.ctl.tp = s.ctl.tp)

/-! ### DRX -/

/-- R145: the verdict, and DGRAM_CHECK run on its own gives it. -/
def Obligations.DatagramVerdict : Prop :=
  (∀ (D : List Byte) (s : State), exec (.dgramCheck D) s = .next { s with fn := .verdict (dgramCheck D) }) ∧
  (∀ D : List Byte, dgramCheck D = true ↔
    (D.length = 512 ∨ D.length = 1024) ∧ D[0]? = some 0x04 ∧ (D[1]? = some 0x84 ∨ D[1]? = some 0x82))

/-- R146: EXTRACT gives the bytes from offset 4 on, unchanged and in order; with no offset 4 there is no slice (log 22). -/
def Obligations.ExtractPayload : Prop :=
  (∀ (D : List Byte) (s : State), 4 ≤ D.length → ∃ P, exec (.extract D) s = .next { s with fn := .payload P } ∧
    P.length = D.length - 4 ∧ ∀ k, P[k]? = D[k + 4]?) ∧
  (∀ (D : List Byte) (s : State), D.length < 4 → exec (.extract D) s = .fault .noPayload)

/-- R147: an accepted datagram that ends the receive in progress is appended to the sink, whole payload in one append, with
no event; the session goes on. -/
def Obligations.AcceptedDatagramAppended : Prop :=
  ∀ (i : Instr) (kind r0 r1 : Byte) (P : List Byte) (s : State),
    (i = .iq84Large r0 r1 P ∧ kind = 0x84 ∧ P.length = 1020 ∨ i = .iq84Small r0 r1 P ∧ kind = 0x84 ∧ P.length = 508 ∨
      i = .iq82Large r0 r1 P ∧ kind = 0x82 ∧ P.length = 1020 ∨ i = .iq82Small r0 r1 P ∧ kind = 0x82 ∧ P.length = 508) →
    s.rx.run = true → s.rx.wait = true → s.rx.outcomes = [] →
    (s.params.cancelAbandonsInflight = false ∨ s.rx.rose = false) →
    exec i s = .next { s with rx := { s.rx with
      wait := false, rose := false, dgram := 0x04 :: kind :: r0 :: r1 :: P, sink := s.rx.sink ++ [.append P] } }

/-- R148: any other datagram that ends the receive in progress is one MalformedPacket report; nothing is appended and the
session goes on. -/
def Obligations.MalformedDatagramReported : Prop :=
  ∀ (d : List Byte) (s : State), wellFormed (.dgramMalformed d) = true →
    s.rx.run = true → s.rx.wait = true → s.rx.outcomes = [] →
    (s.params.cancelAbandonsInflight = false ∨ s.rx.rose = false) →
    exec (.dgramMalformed d) s = .next { s with rx := { s.rx with
      wait := false, rose := false, dgram := d, ev := .malformedPacket, evValid := true } }

/-- U5: with `CANCEL_ABANDONS_INFLIGHT`, a datagram that ends the receive during which `cancel` rose is dropped without
append and without report. Over steps: `cancel` raised during the receive is what makes it so, the datagram after it is
neither appended nor reported, and the session ends at the top of the next iteration (R156). That the
rise is remembered in `rose` is the model's (log 18). -/
def Obligations.AbandonedDatagramDropped : Prop :=
  (∀ (i : Instr) (D : List Byte) (s : State), encode i = .dgram 0 D → D.length ≤ 65535 →
    s.rx.run = true → s.rx.wait = true → s.rx.outcomes = [] →
    s.params.cancelAbandonsInflight = true → s.rx.rose = true →
    exec i s = .next { s with rx := { s.rx with wait := false, rose := false, dgram := D } }) ∧
  (∀ (s : State) (level : Bool) (rest : List Stim), s.feed = .cancel level :: rest →
    step s = .next { s with
      ctl := s.ctl.quiet, feed := rest
      rx := { s.rx.quiet with cancel := level, rose := s.rx.rose || (s.rx.run && s.rx.wait && level) } }) ∧
  (∀ (s : State) (sender : Nat) (D : List Byte) (rest : List Stim), s.params.cancelAbandonsInflight = true →
    D.length ≤ 65535 → s.rx.run = true → s.rx.wait = true → s.rx.outcomes = [] →
    s.feed = .cancel true :: .txn (.dgram sender D) :: rest →
    Sys2Proof.core.run 2 s = .next { s with
      ctl := s.ctl.quiet, feed := rest
      rx := { s.rx.quiet with cancel := true, wait := false, rose := false, dgram := D } } ∧
    (∀ rest', rest = .txn .iterate :: rest' →
      Sys2Proof.core.run 3 s = .next { s with
        ctl := s.ctl.quiet, feed := rest'
        rx := { s.rx.quiet with
          cancel := true, run := false, wait := false, rose := false, dgram := D, endRsn := .cancelled, endValid := true,
          sink := s.rx.sink ++ [.release], sockActs := s.rx.sockActs ++ [.release] } }))

/-- R30: a datagram that comes while no receive is in progress stays in the socket; one too long to be counted is no
datagram of the RPE (R43, log 22). -/
def Obligations.UnreceivedDatagramStaysInSocket : Prop :=
  ∀ (i : Instr) (D : List Byte) (s : State), encode i = .dgram 0 D →
    (D.length ≤ 65535 → (s.rx.run && s.rx.wait) = false →
      exec i s = .next { s with rx := { s.rx with outcomes := s.rx.outcomes ++ [.dgram D] } }) ∧
    (65535 < D.length → exec i s = .fault .dgramOverflow)

/-- R150, R159: RX_START begins a session whatever `conn` is; while one runs it completes with Refused and changes nothing.
That the completion has a status port is the model's choice (log 6), as is taking R178's effect (log 5). -/
def Obligations.RxStartBeginsOneSession : Prop :=
  ∀ s : State, ∃ t, exec .rxStart s = .next t ∧ t = { s with rx := t.rx } ∧ t.rx.run = true ∧ t.rx.startValid = true ∧
    (s.rx.run = false → t.rx.startSt = .ok ∧
      t.rx = { s.rx with run := true, wait := false, rose := false, startSt := .ok, startValid := true }) ∧
    (s.rx.run = true → t.rx = { s.rx with startSt := .refused, startValid := true })

/-- R156, R179: `cancel` at the top ends the session as Cancelled with no receive made, whatever outcome was ready. -/
def Obligations.CancelAtTopEndsSession : Prop :=
  ∀ s : State, s.rx.run = true → s.rx.wait = false → s.rx.cancel = true →
    exec .iterate s = .next { s with rx := { s.rx with
      run := false, rose := false, endRsn := .cancelled, endValid := true,
      sink := s.rx.sink ++ [.release], sockActs := s.rx.sockActs ++ [.release] } } ∧ Code.cancelled.bits = 8

/-- R151 to R155: an iteration that is not cancelled makes exactly one receive, and its one outcome is a datagram judged by
R145, the timeout, or a socket error; with no outcome yet the receive stays in progress. -/
def Obligations.IterationMakesOneReceive : Prop :=
  ∀ s : State, s.rx.run = true → s.rx.wait = false → s.rx.cancel = false →
    (s.rx.outcomes = [] → exec .iterate s = .next { s with rx := { s.rx with
      wait := true, rose := false, sockActs := s.rx.sockActs ++ [.receive] } }) ∧
    (∀ os, s.rx.outcomes = .timeout :: os → exec .iterate s = .next { s with rx := { s.rx with
      run := false, rose := false, outcomes := os, endRsn := .timeoutEnd, endValid := true,
      sink := s.rx.sink ++ [.release], sockActs := s.rx.sockActs ++ [.receive, .release] } }) ∧
    (∀ os, s.rx.outcomes = .sockErr :: os → exec .iterate s = .next { s with rx := { s.rx with
      run := false, rose := false, outcomes := os, endRsn := .socketError, endValid := true,
      sink := s.rx.sink ++ [.release], sockActs := s.rx.sockActs ++ [.receive, .release] } }) ∧
    (∀ D os, s.rx.outcomes = .dgram D :: os → dgramCheck D = true → exec .iterate s = .next { s with rx := { s.rx with
      rose := false, outcomes := os, dgram := D,
      sink := s.rx.sink ++ [.append (D.drop 4)], sockActs := s.rx.sockActs ++ [.receive] } }) ∧
    (∀ D os, s.rx.outcomes = .dgram D :: os → dgramCheck D = false → exec .iterate s = .next { s with rx := { s.rx with
      rose := false, outcomes := os, dgram := D, ev := .malformedPacket, evValid := true,
      sockActs := s.rx.sockActs ++ [.receive] } })

/-- R151: ITERATE is the step of a running session; with no session, or with the receive of the iteration before it still in
progress, nothing happens (log 16). -/
def Obligations.IterationOnlyWhileRunning : Prop :=
  ∀ s : State, s.rx.run = false ∨ s.rx.wait = true → exec .iterate s = .next s

/-- R156, R205: `cancel` raised during a receive does not interrupt it. The datagram that then arrives is appended, and the
session ends at the top of the next iteration. -/
def Obligations.CancellationIsNotPreemptive : Prop :=
  ∀ (s : State) (sender : Nat) (D : List Byte), s.params.cancelAbandonsInflight = false → dgramCheck D = true →
    s.rx.run = true → s.rx.wait = true → s.rx.outcomes = [] →
    s.feed = [.cancel true, .txn (.dgram sender D), .txn .iterate] →
    ∃ t, Sys2Proof.core.run 3 s = .next t ∧ t.rx.run = false ∧ t.rx.endValid = true ∧ t.rx.endRsn = .cancelled ∧
    t.rx.sink = s.rx.sink ++ [.append (D.drop 4), .release] ∧ t.rx.sockActs = s.rx.sockActs ++ [.release]

/-- R154, R155, R175, R176: the timeout and the socket error end a session that waits in a receive, each with its own
reason, sink and socket released. -/
def Obligations.WaitingReceiveEndsSession : Prop :=
  ∀ (s : State) (e : Stim) (reason : Code) (rest : List Stim),
    (e = .timeout ∧ reason = .timeoutEnd ∨ e = .sockErr ∧ reason = .socketError) →
    s.feed = e :: rest → s.rx.run = true → s.rx.wait = true → s.rx.outcomes = [] →
    step s = .next { s with
      ctl := s.ctl.quiet, feed := rest
      rx := { s.rx.quiet with
        run := false, wait := false, rose := false, endRsn := reason, endValid := true,
        sink := s.rx.sink ++ [.release], sockActs := s.rx.sockActs ++ [.release] } }

/-! ### The machine -/

/-- A step runs the decoded operation: what stands at the head of the schedule is taken off it, the outputs of the step
before are no longer presented, and the state after is that of exec. What decodes to nothing is refused by name, and with
nothing presented the machine stays as it is. -/
def Obligations.StepRunsDecodedInstruction : Prop :=
  (∀ (s : State) (x : Txn) (i : Instr) (rest : List Stim), s.feed = .txn x :: rest → decode x = .ok i →
    step s = exec i { s with ctl := s.ctl.quiet, rx := s.rx.quiet, feed := rest }) ∧
  (∀ (s : State) (x : Txn) (e : DecodeError) (rest : List Stim), s.feed = .txn x :: rest → decode x = .error e →
    step s = .refused (.undecodable e)) ∧
  (∀ s : State, s.feed = [] → step s = .next { s with ctl := s.ctl.quiet, rx := s.rx.quiet })

/-- R161: who sent a datagram makes no difference. -/
def Obligations.SenderMakesNoDifference : Prop :=
  ∀ (s : State) (a b : Nat) (D : List Byte) (rest : List Stim),
    step { s with feed := .txn (.dgram a D) :: rest } = step { s with feed := .txn (.dgram b D) :: rest }

/-- R32: what the spec gives for reset. The values of `op` and of the buffers are not stated: they are the model's (log 7,
log 8). -/
def Obligations.ResetState : Prop :=
  State.reset.ctl.conn = .disconnected ∧ State.reset.ctl.busy = false ∧ State.reset.rx.run = false ∧
  State.reset.ctl.res = errorRes .ok 0 0 ∧ State.reset.ctl.resValid = false ∧
  State.reset.rx.endRsn = .ok ∧ State.reset.rx.endValid = false ∧ State.reset.event = none ∧
  State.reset.ctl.tp.acts = [] ∧ State.reset.rx.sink = [] ∧ State.reset.quiescent

/-- The invariant holds after reset. -/
def Obligations.InvariantAtReset : Prop := State.reset.Inv

/-- The invariant is kept by every step, from every state that has it: `busy` is 1 exactly while a transport answer is
awaited (R24), the result record has the shape of R27, buffers stay in their capacities and sink payloads have 508 or 1020
bytes (R40), a receive is in progress only in a session, end reasons and events are the agents' own codes (R170), every
output is 0 while not valid (R27, R29; the status of RX_START: log 6, log 9), and `CMD` and the wire get the frames of valid
commands only, while connected (R40, R74, R80, R127). -/
def Obligations.EveryStepKeepsInvariant : Prop :=
  ∀ s t : State, s.Inv → step s = .next t → t.Inv

/-- R13, R53, R160: an operation of one agent leaves the other agent's whole state unchanged, and a unit function run on its
own leaves both agents unchanged. No operation touches the parameters or the schedule. -/
def Obligations.AgentsShareNothing : Prop :=
  ∀ (i : Instr) (s t : State), exec i s = .next t →
    (side i = .control → t = { s with ctl := t.ctl }) ∧
    (side i = .receive → t = { s with rx := t.rx }) ∧
    (side i = .function → t = { s with fn := t.fn })

/-- R53: the two agents' operations have the same effect in either order. -/
def Obligations.AgentsCommute : Prop :=
  ∀ (i j : Instr) (s t u : State), side i = .control → side j = .receive →
    exec i s = .next t → exec j s = .next u →
    ∃ v, exec j t = .next v ∧ exec i u = .next v

/-- R23: `conn` changes only by CONNECT, by the transport's answer to it, by DISCONNECT, and by reset. -/
def Obligations.ConnChangesOnlyByConnectDisconnect : Prop :=
  ∀ s t : State, s.Inv → step s = .next t → t.ctl.conn ≠ s.ctl.conn →
    ∃ e rest, s.feed = e :: rest ∧
      ((∃ x p, e = .txn x ∧ decode x = .ok (.connect p) ∧ t.ctl.conn = .connected) ∨
       (∃ x p, e = .txn x ∧ decode x = .ok (.disconnect p) ∧ t.ctl.conn = .disconnected) ∨
       (e = .connectAns true ∧ s.ctl.wait = .connect ∧ t.ctl.conn = .connected) ∨ (∃ k, e = .reset k))

/-- R141: no error changes `conn`; after a ConnectionError it is Disconnected. -/
def Obligations.NoErrorChangesConn : Prop :=
  ∀ s t : State, s.Inv → step s = .next t → t.ctl.resValid = true → t.ctl.res.st ≠ .ok →
    t.ctl.conn = s.ctl.conn ∧ (t.ctl.res.st = .connectionError → t.ctl.conn = .disconnected)

/-- R25, R157: a session ends only by timeout, cancellation or socket error, or by reset; each of the three ends releases the
sink and the socket once, appends nothing with it, and presents its reason. -/
def Obligations.SessionEndsWithReason : Prop :=
  ∀ s t : State, step s = .next t → s.rx.run = true → t.rx.run = false →
    (∃ k rest, s.feed = .reset k :: rest) ∨
    (t.rx.endValid = true ∧ t.rx.endRsn ∈ [Code.timeoutEnd, .cancelled, .socketError] ∧
      t.rx.sink = s.rx.sink ++ [.release] ∧
      (t.rx.sockActs = s.rx.sockActs ++ [.release] ∨ t.rx.sockActs = s.rx.sockActs ++ [.receive, .release]))

/-- R44, R48, R50: no step takes back or rewrites anything done on the sink, the transport or the socket, nor any byte that
reached the device; one step does at most one action on the sink. That the reset input keeps
these histories too is the model's choice (log 20; R195). -/
def Obligations.OutputsAreAppendOnly : Prop :=
  ∀ s t : State, step s = .next t →
    (t.rx.sink = s.rx.sink ∨ ∃ a, t.rx.sink = s.rx.sink ++ [a]) ∧
    s.ctl.tp.acts <+: t.ctl.tp.acts ∧ s.ctl.tp.delivered <+: t.ctl.tp.delivered ∧ s.rx.sockActs <+: t.rx.sockActs

/-- R44, R147: what one step adds to the sink's bytes is nothing, or the payload of an accepted datagram. That the reset
input keeps the sink as it was is the model's choice (log 20; R195). -/
def Obligations.SinkHoldsOnlyAcceptedPayloads : Prop :=
  ∀ s t : State, step s = .next t →
    t.sinkBytes = s.sinkBytes ∨
    ∃ D, dgramCheck D = true ∧ t.rx.dgram = D ∧ t.sinkBytes = s.sinkBytes ++ D.drop 4
end

