-- ==== Sys2Proof/Laws/Bytes.lean ====
section
/-! SUPPORT. Laws of byte order: length, single bytes and round trips of `leBytes` and `leUint`, and the field read and
write. -/

namespace Sys2Proof

@[simp] theorem leBytes_length (v k : Nat) : (leBytes v k).length = k := by
  induction k generalizing v with
  | zero => rfl
  | succ k ih => simp [leBytes, ih]

/-- Byte `i` of `le_bytes(v, k)` is `(v >> 8i) & 0xFF`. -/
theorem leBytes_getElem? (v k i : Nat) (h : i < k) :
    (leBytes v k)[i]? = some (BitVec.ofNat 8 (v / 256 ^ i)) := by
  induction k generalizing v i with
  | zero => omega
  | succ k ih =>
    cases i with
    | zero => simp [leBytes]
    | succ i =>
      simp only [leBytes, List.getElem?_cons_succ]
      rw [ih (v / 256) i (by omega), Nat.div_div_eq_div_mul, pow_succ, Nat.mul_comm]

/-- Reading back what was written: the bits at or above `8k` are discarded. -/
theorem leUint_leBytes (v k : Nat) : leUint (leBytes v k) = v % 256 ^ k := by
  induction k generalizing v with
  | zero => simp [leBytes, leUint, Nat.mod_one]
  | succ k ih =>
    simp only [leBytes, leUint, ih, BitVec.toNat_ofNat]
    rw [show (256 : Nat) ^ (k + 1) = 256 * 256 ^ k by rw [pow_succ, Nat.mul_comm], Nat.mod_mul]

/-- A byte sequence is `le_bytes` of its integer. -/
theorem leBytes_leUint (B : List Byte) : leBytes (leUint B) B.length = B := by
  induction B with
  | nil => rfl
  | cons b bs ih =>
    have hb : b.toNat < 256 := b.isLt
    simp only [List.length_cons, leBytes, leUint, List.cons.injEq]
    refine ⟨?_, ?_⟩
    · apply BitVec.eq_of_toNat_eq
      simp only [BitVec.toNat_ofNat]
      omega
    · rw [show (b.toNat + 256 * leUint bs) / 256 = leUint bs by omega, ih]

theorem leUint_lt (B : List Byte) : leUint B < 256 ^ B.length := by
  induction B with
  | nil => simp [leUint]
  | cons b bs ih =>
    have hb : b.toNat < 256 := b.isLt
    simp only [leUint, List.length_cons, pow_succ]
    omega

theorem writeLe_length {B B' : List Byte} {off n v : Nat} (h : writeLe B off n v = some B') : B'.length = B.length := by
  unfold writeLe at h
  split at h
  · cases h
    simp only [List.length_append, List.length_take, leBytes_length, List.length_drop]
    omega
  · cases h

/-- A field read after a write to the same place gives the value written, up to its width. -/
theorem readLe_writeLe {B B' : List Byte} {off n v : Nat} (h : writeLe B off n v = some B') :
    readLe B' off n = some (v % 256 ^ n) := by
  have hl := writeLe_length h
  unfold writeLe at h
  split at h
  · rename_i hb
    cases h
    unfold readLe
    rw [hl, if_pos hb]
    have ht : (B.take off).length = off := by simp; omega
    rw [List.append_assoc, List.drop_append, ht, Nat.sub_self, List.drop_zero,
      List.drop_eq_nil_of_le (by omega), List.nil_append,
      List.take_append_of_le_length (by simp), List.take_of_length_le (by simp), leUint_leBytes]
  · cases h

/-- A write leaves every byte outside its place alone. -/
theorem writeLe_frame {B B' : List Byte} {off n v : Nat} (h : writeLe B off n v = some B') (k : Nat)
    (hk : k < off ∨ off + n ≤ k) : B'[k]? = B[k]? := by
  unfold writeLe at h
  split at h
  · rename_i hb
    cases h
    rcases hk with hk | hk
    · rw [List.append_assoc, List.getElem?_append_left (by simp; omega), List.getElem?_take, if_pos hk]
    · rw [List.getElem?_append_right (by simp; omega), List.getElem?_drop]
      congr 1
      simp
      omega
  · cases h

end Sys2Proof
end

