-- ==== Sys2Proof/Laws/State.lean ====
section
/-! SUPPORT. For each named update of the state, what each field holds after it. -/

namespace Sys2Proof.Machine

/-! ### The state -/

@[simp] theorem State.onCtl_ctl (s : State) (f : Control → Control) : (s.onCtl f).ctl = f s.ctl := rfl
@[simp] theorem State.onCtl_rx (s : State) (f : Control → Control) : (s.onCtl f).rx = s.rx := rfl
@[simp] theorem State.onCtl_fn (s : State) (f : Control → Control) : (s.onCtl f).fn = s.fn := rfl
@[simp] theorem State.onCtl_params (s : State) (f : Control → Control) : (s.onCtl f).params = s.params := rfl
@[simp] theorem State.onCtl_feed (s : State) (f : Control → Control) : (s.onCtl f).feed = s.feed := rfl

@[simp] theorem State.onRx_ctl (s : State) (f : Receive → Receive) : (s.onRx f).ctl = s.ctl := rfl
@[simp] theorem State.onRx_rx (s : State) (f : Receive → Receive) : (s.onRx f).rx = f s.rx := rfl
@[simp] theorem State.onRx_fn (s : State) (f : Receive → Receive) : (s.onRx f).fn = s.fn := rfl
@[simp] theorem State.onRx_params (s : State) (f : Receive → Receive) : (s.onRx f).params = s.params := rfl
@[simp] theorem State.onRx_feed (s : State) (f : Receive → Receive) : (s.onRx f).feed = s.feed := rfl

@[simp] theorem State.setFn_ctl (s : State) (v : FnOut) : (s.setFn v).ctl = s.ctl := rfl
@[simp] theorem State.setFn_rx (s : State) (v : FnOut) : (s.setFn v).rx = s.rx := rfl
@[simp] theorem State.setFn_fn (s : State) (v : FnOut) : (s.setFn v).fn = v := rfl
@[simp] theorem State.setFn_params (s : State) (v : FnOut) : (s.setFn v).params = s.params := rfl
@[simp] theorem State.setFn_feed (s : State) (v : FnOut) : (s.setFn v).feed = s.feed := rfl

@[simp] theorem State.quiet_ctl (s : State) : (s.quiet).ctl = s.ctl.quiet := rfl
@[simp] theorem State.quiet_rx (s : State) : (s.quiet).rx = s.rx.quiet := rfl
@[simp] theorem State.quiet_fn (s : State) : (s.quiet).fn = s.fn := rfl
@[simp] theorem State.quiet_params (s : State) : (s.quiet).params = s.params := rfl
@[simp] theorem State.quiet_feed (s : State) : (s.quiet).feed = s.feed := rfl

/-! ### The control agent -/

@[simp] theorem Control.quiet_conn (c : Control) : (c.quiet).conn = c.conn := rfl
@[simp] theorem Control.quiet_busy (c : Control) : (c.quiet).busy = c.busy := rfl
@[simp] theorem Control.quiet_wait (c : Control) : (c.quiet).wait = c.wait := rfl
@[simp] theorem Control.quiet_op (c : Control) : (c.quiet).op = c.op := rfl
@[simp] theorem Control.quiet_cmd (c : Control) : (c.quiet).cmd = c.cmd := rfl
@[simp] theorem Control.quiet_resp (c : Control) : (c.quiet).resp = c.resp := rfl
@[simp] theorem Control.quiet_res (c : Control) : (c.quiet).res = resZero := rfl
@[simp] theorem Control.quiet_resValid (c : Control) : (c.quiet).resValid = false := rfl
@[simp] theorem Control.quiet_ev (c : Control) : (c.quiet).ev = .ok := rfl
@[simp] theorem Control.quiet_evValid (c : Control) : (c.quiet).evValid = false := rfl
@[simp] theorem Control.quiet_tp (c : Control) : (c.quiet).tp = c.tp := rfl
@[simp] theorem Control.quiet_free (c : Control) : (c.quiet).free = c.free := rfl

@[simp] theorem Control.accept_conn (c : Control) (r : Req) : (c.accept r).conn = c.conn := rfl
@[simp] theorem Control.accept_busy (c : Control) (r : Req) : (c.accept r).busy = true := rfl
@[simp] theorem Control.accept_wait (c : Control) (r : Req) : (c.accept r).wait = c.wait := rfl
@[simp] theorem Control.accept_op (c : Control) (r : Req) : (c.accept r).op = r := rfl
@[simp] theorem Control.accept_cmd (c : Control) (r : Req) : (c.accept r).cmd = c.cmd := rfl
@[simp] theorem Control.accept_resp (c : Control) (r : Req) : (c.accept r).resp = c.resp := rfl
@[simp] theorem Control.accept_res (c : Control) (r : Req) : (c.accept r).res = c.res := rfl
@[simp] theorem Control.accept_resValid (c : Control) (r : Req) : (c.accept r).resValid = c.resValid := rfl
@[simp] theorem Control.accept_ev (c : Control) (r : Req) : (c.accept r).ev = c.ev := rfl
@[simp] theorem Control.accept_evValid (c : Control) (r : Req) : (c.accept r).evValid = c.evValid := rfl
@[simp] theorem Control.accept_tp (c : Control) (r : Req) : (c.accept r).tp = c.tp := rfl
@[simp] theorem Control.accept_free (c : Control) (r : Req) : (c.accept r).free = c.free := rfl

@[simp] theorem Control.complete_conn (c : Control) (r : Res) : (c.complete r).conn = c.conn := rfl
@[simp] theorem Control.complete_busy (c : Control) (r : Res) : (c.complete r).busy = false := rfl
@[simp] theorem Control.complete_wait (c : Control) (r : Res) : (c.complete r).wait = .none := rfl
@[simp] theorem Control.complete_op (c : Control) (r : Res) : (c.complete r).op = Config.freeOp c.free := rfl
@[simp] theorem Control.complete_cmd (c : Control) (r : Res) : (c.complete r).cmd = c.cmd := rfl
@[simp] theorem Control.complete_resp (c : Control) (r : Res) : (c.complete r).resp = c.resp := rfl
@[simp] theorem Control.complete_res (c : Control) (r : Res) : (c.complete r).res = r := rfl
@[simp] theorem Control.complete_resValid (c : Control) (r : Res) : (c.complete r).resValid = true := rfl
@[simp] theorem Control.complete_ev (c : Control) (r : Res) : (c.complete r).ev = c.ev := rfl
@[simp] theorem Control.complete_evValid (c : Control) (r : Res) : (c.complete r).evValid = c.evValid := rfl
@[simp] theorem Control.complete_tp (c : Control) (r : Res) : (c.complete r).tp = c.tp := rfl
@[simp] theorem Control.complete_free (c : Control) (r : Res) : (c.complete r).free = c.free + 1 := rfl

@[simp] theorem Control.raise_conn (c : Control) (st : Code) (v : BitVec 3) (x : BitVec 1) : (c.raise st v x).conn = c.conn := rfl
@[simp] theorem Control.raise_busy (c : Control) (st : Code) (v : BitVec 3) (x : BitVec 1) : (c.raise st v x).busy = false := rfl
@[simp] theorem Control.raise_wait (c : Control) (st : Code) (v : BitVec 3) (x : BitVec 1) : (c.raise st v x).wait = .none := rfl
@[simp] theorem Control.raise_op (c : Control) (st : Code) (v : BitVec 3) (x : BitVec 1) : (c.raise st v x).op = Config.freeOp c.free := rfl
@[simp] theorem Control.raise_cmd (c : Control) (st : Code) (v : BitVec 3) (x : BitVec 1) : (c.raise st v x).cmd = c.cmd := rfl
@[simp] theorem Control.raise_resp (c : Control) (st : Code) (v : BitVec 3) (x : BitVec 1) : (c.raise st v x).resp = c.resp := rfl
@[simp] theorem Control.raise_res (c : Control) (st : Code) (v : BitVec 3) (x : BitVec 1) : (c.raise st v x).res = { resZero with st := st, vdet := v, xdet := x } := rfl
@[simp] theorem Control.raise_resValid (c : Control) (st : Code) (v : BitVec 3) (x : BitVec 1) : (c.raise st v x).resValid = true := rfl
@[simp] theorem Control.raise_ev (c : Control) (st : Code) (v : BitVec 3) (x : BitVec 1) : (c.raise st v x).ev = c.ev := rfl
@[simp] theorem Control.raise_evValid (c : Control) (st : Code) (v : BitVec 3) (x : BitVec 1) : (c.raise st v x).evValid = c.evValid := rfl
@[simp] theorem Control.raise_tp (c : Control) (st : Code) (v : BitVec 3) (x : BitVec 1) : (c.raise st v x).tp = c.tp := rfl
@[simp] theorem Control.raise_free (c : Control) (st : Code) (v : BitVec 3) (x : BitVec 1) : (c.raise st v x).free = c.free + 1 := rfl

@[simp] theorem Control.report_conn (c : Control) (e : Code) : (c.report e).conn = c.conn := rfl
@[simp] theorem Control.report_busy (c : Control) (e : Code) : (c.report e).busy = c.busy := rfl
@[simp] theorem Control.report_wait (c : Control) (e : Code) : (c.report e).wait = c.wait := rfl
@[simp] theorem Control.report_op (c : Control) (e : Code) : (c.report e).op = c.op := rfl
@[simp] theorem Control.report_cmd (c : Control) (e : Code) : (c.report e).cmd = c.cmd := rfl
@[simp] theorem Control.report_resp (c : Control) (e : Code) : (c.report e).resp = c.resp := rfl
@[simp] theorem Control.report_res (c : Control) (e : Code) : (c.report e).res = c.res := rfl
@[simp] theorem Control.report_resValid (c : Control) (e : Code) : (c.report e).resValid = c.resValid := rfl
@[simp] theorem Control.report_ev (c : Control) (e : Code) : (c.report e).ev = e := rfl
@[simp] theorem Control.report_evValid (c : Control) (e : Code) : (c.report e).evValid = true := rfl
@[simp] theorem Control.report_tp (c : Control) (e : Code) : (c.report e).tp = c.tp := rfl
@[simp] theorem Control.report_free (c : Control) (e : Code) : (c.report e).free = c.free := rfl

@[simp] theorem Control.act_conn (c : Control) (a : TpAct) : (c.act a).conn = c.conn := rfl
@[simp] theorem Control.act_busy (c : Control) (a : TpAct) : (c.act a).busy = c.busy := rfl
@[simp] theorem Control.act_wait (c : Control) (a : TpAct) : (c.act a).wait = c.wait := rfl
@[simp] theorem Control.act_op (c : Control) (a : TpAct) : (c.act a).op = c.op := rfl
@[simp] theorem Control.act_cmd (c : Control) (a : TpAct) : (c.act a).cmd = c.cmd := rfl
@[simp] theorem Control.act_resp (c : Control) (a : TpAct) : (c.act a).resp = c.resp := rfl
@[simp] theorem Control.act_res (c : Control) (a : TpAct) : (c.act a).res = c.res := rfl
@[simp] theorem Control.act_resValid (c : Control) (a : TpAct) : (c.act a).resValid = c.resValid := rfl
@[simp] theorem Control.act_ev (c : Control) (a : TpAct) : (c.act a).ev = c.ev := rfl
@[simp] theorem Control.act_evValid (c : Control) (a : TpAct) : (c.act a).evValid = c.evValid := rfl
@[simp] theorem Control.act_tp (c : Control) (a : TpAct) : (c.act a).tp = { c.tp with acts := c.tp.acts ++ [a] } := rfl
@[simp] theorem Control.act_free (c : Control) (a : TpAct) : (c.act a).free = c.free := rfl

/-! ### The receive agent -/

@[simp] theorem Receive.quiet_run (r : Receive) : (r.quiet).run = r.run := rfl
@[simp] theorem Receive.quiet_wait (r : Receive) : (r.quiet).wait = r.wait := rfl
@[simp] theorem Receive.quiet_rose (r : Receive) : (r.quiet).rose = r.rose := rfl
@[simp] theorem Receive.quiet_dgram (r : Receive) : (r.quiet).dgram = r.dgram := rfl
@[simp] theorem Receive.quiet_startSt (r : Receive) : (r.quiet).startSt = .ok := rfl
@[simp] theorem Receive.quiet_startValid (r : Receive) : (r.quiet).startValid = false := rfl
@[simp] theorem Receive.quiet_endRsn (r : Receive) : (r.quiet).endRsn = .ok := rfl
@[simp] theorem Receive.quiet_endValid (r : Receive) : (r.quiet).endValid = false := rfl
@[simp] theorem Receive.quiet_ev (r : Receive) : (r.quiet).ev = .ok := rfl
@[simp] theorem Receive.quiet_evValid (r : Receive) : (r.quiet).evValid = false := rfl
@[simp] theorem Receive.quiet_cancel (r : Receive) : (r.quiet).cancel = r.cancel := rfl
@[simp] theorem Receive.quiet_outcomes (r : Receive) : (r.quiet).outcomes = r.outcomes := rfl
@[simp] theorem Receive.quiet_sockActs (r : Receive) : (r.quiet).sockActs = r.sockActs := rfl
@[simp] theorem Receive.quiet_sink (r : Receive) : (r.quiet).sink = r.sink := rfl

@[simp] theorem Receive.report_run (r : Receive) (e : Code) : (r.report e).run = r.run := rfl
@[simp] theorem Receive.report_wait (r : Receive) (e : Code) : (r.report e).wait = r.wait := rfl
@[simp] theorem Receive.report_rose (r : Receive) (e : Code) : (r.report e).rose = r.rose := rfl
@[simp] theorem Receive.report_dgram (r : Receive) (e : Code) : (r.report e).dgram = r.dgram := rfl
@[simp] theorem Receive.report_startSt (r : Receive) (e : Code) : (r.report e).startSt = r.startSt := rfl
@[simp] theorem Receive.report_startValid (r : Receive) (e : Code) : (r.report e).startValid = r.startValid := rfl
@[simp] theorem Receive.report_endRsn (r : Receive) (e : Code) : (r.report e).endRsn = r.endRsn := rfl
@[simp] theorem Receive.report_endValid (r : Receive) (e : Code) : (r.report e).endValid = r.endValid := rfl
@[simp] theorem Receive.report_ev (r : Receive) (e : Code) : (r.report e).ev = e := rfl
@[simp] theorem Receive.report_evValid (r : Receive) (e : Code) : (r.report e).evValid = true := rfl
@[simp] theorem Receive.report_cancel (r : Receive) (e : Code) : (r.report e).cancel = r.cancel := rfl
@[simp] theorem Receive.report_outcomes (r : Receive) (e : Code) : (r.report e).outcomes = r.outcomes := rfl
@[simp] theorem Receive.report_sockActs (r : Receive) (e : Code) : (r.report e).sockActs = r.sockActs := rfl
@[simp] theorem Receive.report_sink (r : Receive) (e : Code) : (r.report e).sink = r.sink := rfl

@[simp] theorem Receive.endSession_run (r : Receive) (reason : Code) : (r.endSession reason).run = false := rfl
@[simp] theorem Receive.endSession_wait (r : Receive) (reason : Code) : (r.endSession reason).wait = false := rfl
@[simp] theorem Receive.endSession_rose (r : Receive) (reason : Code) : (r.endSession reason).rose = false := rfl
@[simp] theorem Receive.endSession_dgram (r : Receive) (reason : Code) : (r.endSession reason).dgram = r.dgram := rfl
@[simp] theorem Receive.endSession_startSt (r : Receive) (reason : Code) : (r.endSession reason).startSt = r.startSt := rfl
@[simp] theorem Receive.endSession_startValid (r : Receive) (reason : Code) : (r.endSession reason).startValid = r.startValid := rfl
@[simp] theorem Receive.endSession_endRsn (r : Receive) (reason : Code) : (r.endSession reason).endRsn = reason := rfl
@[simp] theorem Receive.endSession_endValid (r : Receive) (reason : Code) : (r.endSession reason).endValid = true := rfl
@[simp] theorem Receive.endSession_ev (r : Receive) (reason : Code) : (r.endSession reason).ev = r.ev := rfl
@[simp] theorem Receive.endSession_evValid (r : Receive) (reason : Code) : (r.endSession reason).evValid = r.evValid := rfl
@[simp] theorem Receive.endSession_cancel (r : Receive) (reason : Code) : (r.endSession reason).cancel = r.cancel := rfl
@[simp] theorem Receive.endSession_outcomes (r : Receive) (reason : Code) : (r.endSession reason).outcomes = r.outcomes := rfl
@[simp] theorem Receive.endSession_sockActs (r : Receive) (reason : Code) : (r.endSession reason).sockActs = r.sockActs ++ [.release] := rfl
@[simp] theorem Receive.endSession_sink (r : Receive) (reason : Code) : (r.endSession reason).sink = r.sink ++ [.release] := rfl

@[simp] theorem Receive.setCancel_run (r : Receive) (level : Bool) : (r.setCancel level).run = r.run := rfl
@[simp] theorem Receive.setCancel_wait (r : Receive) (level : Bool) : (r.setCancel level).wait = r.wait := rfl
@[simp] theorem Receive.setCancel_rose (r : Receive) (level : Bool) : (r.setCancel level).rose = (r.rose || (r.run && r.wait && level)) := rfl
@[simp] theorem Receive.setCancel_dgram (r : Receive) (level : Bool) : (r.setCancel level).dgram = r.dgram := rfl
@[simp] theorem Receive.setCancel_startSt (r : Receive) (level : Bool) : (r.setCancel level).startSt = r.startSt := rfl
@[simp] theorem Receive.setCancel_startValid (r : Receive) (level : Bool) : (r.setCancel level).startValid = r.startValid := rfl
@[simp] theorem Receive.setCancel_endRsn (r : Receive) (level : Bool) : (r.setCancel level).endRsn = r.endRsn := rfl
@[simp] theorem Receive.setCancel_endValid (r : Receive) (level : Bool) : (r.setCancel level).endValid = r.endValid := rfl
@[simp] theorem Receive.setCancel_ev (r : Receive) (level : Bool) : (r.setCancel level).ev = r.ev := rfl
@[simp] theorem Receive.setCancel_evValid (r : Receive) (level : Bool) : (r.setCancel level).evValid = r.evValid := rfl
@[simp] theorem Receive.setCancel_cancel (r : Receive) (level : Bool) : (r.setCancel level).cancel = level := rfl
@[simp] theorem Receive.setCancel_outcomes (r : Receive) (level : Bool) : (r.setCancel level).outcomes = r.outcomes := rfl
@[simp] theorem Receive.setCancel_sockActs (r : Receive) (level : Bool) : (r.setCancel level).sockActs = r.sockActs := rfl
@[simp] theorem Receive.setCancel_sink (r : Receive) (level : Bool) : (r.setCancel level).sink = r.sink := rfl

end Sys2Proof.Machine
end

