-- ==== Sys2Proof/Laws/Ops.lean ====
section
/-! SUPPORT. What each shared operation can do, said once: one equation per case, and the fields no case touches. -/

namespace Sys2Proof.Machine

/-! ### The round trip -/

/-- A round trip ends with the parsed slice in `res` and the report that goes with its class. -/
theorem Control.finishRead_eq (c : Control) :
    c.finishRead =
      { c with
        busy := false, wait := .none, op := Config.freeOp c.free, free := c.free + 1, resValid := true
        res := resOfParse (parse c.resp) c.resp.length
        ev := if (parse c.resp).malformed then .malformedResponse
          else if (parse c.resp).cls = .unknown then .protocolError else c.ev
        evValid := (parse c.resp).malformed || decide ((parse c.resp).cls = .unknown) || c.evValid } := by
  unfold Control.finishRead
  by_cases h1 : (parse c.resp).cls = .unknown <;> cases h2 : (parse c.resp).malformed <;>
    simp [h1, h2, Control.report, Control.complete]

theorem Control.resumeRead_nil {c : Control} (h : c.tp.readAns = []) : c.resumeRead = c := by
  simp [Control.resumeRead, h]

theorem Control.resumeRead_fail {c : Control} {rest : List ReadAns} (h : c.tp.readAns = .fail :: rest) :
    c.resumeRead = { c with tp := { c.tp with readAns := rest } }.raise .transferError 0 1 := by
  simp [Control.resumeRead, h]

theorem Control.resumeRead_data {c : Control} {B : List Byte} {rest : List ReadAns}
    (h : c.tp.readAns = .data B :: rest) :
    c.resumeRead =
      { c with resp := B.take respBuf, tp := { c.tp with readAns := leftover B rest } }.finishRead := by
  simp [Control.resumeRead, h]

theorem Control.resumeWrite_nil {c : Control} (h : c.tp.writeAns = []) : c.resumeWrite = c := by
  simp [Control.resumeWrite, h]

theorem Control.resumeWrite_ok {c : Control} {rest : List WriteAns} (h : c.tp.writeAns = .ok :: rest) :
    c.resumeWrite =
      { c with tp := { c.tp with writeAns := rest, delivered := c.tp.delivered ++ c.cmd } }.startRead := by
  simp [Control.resumeWrite, h]

theorem Control.resumeWrite_fail {c : Control} {k : Nat} {rest : List WriteAns}
    (h : c.tp.writeAns = .fail k :: rest) :
    c.resumeWrite =
      { c with tp := { c.tp with writeAns := rest, delivered := c.tp.delivered ++ c.cmd.take k } }.raise
        .transferError 0 0 := by
  simp [Control.resumeWrite, h]

theorem Control.resumeConnect_nil {c : Control} (h : c.tp.connectAns = []) : c.resumeConnect = c := by
  simp [Control.resumeConnect, h]

theorem Control.resumeConnect_ok {c : Control} {rest : List Bool} (h : c.tp.connectAns = true :: rest) :
    c.resumeConnect =
      { c with conn := .connected, tp := { c.tp with connectAns := rest } }.complete resZero := by
  simp [Control.resumeConnect, h]

theorem Control.resumeConnect_fail {c : Control} {rest : List Bool} (h : c.tp.connectAns = false :: rest) :
    c.resumeConnect = { c with tp := { c.tp with connectAns := rest } }.raise .connectionError 0 0 := by
  simp [Control.resumeConnect, h]

/-- The three things a command request can do: be rejected for a parameter, for the connection, or make its round trip. -/
theorem Control.command_cases (c : Control) (cmd : Command) :
    (vdetOf cmd ≠ 0 ∧ c.command cmd = c.raise .validationError (vdetOf cmd) 0) ∨
    (vdetOf cmd = 0 ∧ c.conn = .disconnected ∧ c.command cmd = c.raise .stateError 0 0) ∨
    (vdetOf cmd = 0 ∧ c.conn = .connected ∧ c.command cmd = c.startRoundtrip cmd.frame) := by
  unfold Control.command admitCheck
  by_cases hv : vdetOf cmd = 0
  · rw [if_pos hv]
    cases hc : c.conn
    · exact .inr (.inl ⟨hv, rfl, rfl⟩)
    · exact .inr (.inr ⟨hv, rfl, rfl⟩)
  · rw [if_neg hv]
    exact .inl ⟨hv, rfl⟩

/-- The verdict of ADMIT is OK exactly for valid parameters on a connected channel. -/
theorem admitCheck_ok_iff (cmd : Command) (conn : ConnState) :
    admitCheck cmd conn = (.ok, 0) ↔ vdetOf cmd = 0 ∧ conn = .connected := by
  unfold admitCheck
  by_cases hv : vdetOf cmd = 0
  · rw [if_pos hv]
    cases conn <;> simp [hv]
  · rw [if_neg hv]
    exact ⟨fun h => absurd (congrArg Prod.fst h) nofun, fun h => absurd h.1 hv⟩

/-- The two things ROUNDTRIP on its own can do: nothing, or the round trip of an admitted command. -/
theorem Control.roundtripAlone_cases (c : Control) (cmd : Command) :
    ((c.busy = true ∨ vdetOf cmd ≠ 0 ∨ c.conn = .disconnected) ∧ c.roundtripAlone cmd = c) ∨
    (c.busy = false ∧ vdetOf cmd = 0 ∧ c.conn = .connected ∧
      c.roundtripAlone cmd = { c with busy := true }.startRoundtrip cmd.frame) := by
  unfold Control.roundtripAlone
  simp only [admitCheck_ok_iff]
  by_cases h : c.busy = false ∧ vdetOf cmd = 0 ∧ c.conn = .connected
  · exact .inr ⟨h.1, h.2.1, h.2.2, if_pos h⟩
  · refine .inl ⟨?_, if_neg h⟩
    cases hb : c.busy
    · by_cases hv : vdetOf cmd = 0
      · cases hc : c.conn
        · exact .inr (.inr rfl)
        · exact absurd ⟨hb, hv, hc⟩ h
      · exact .inr (.inl hv)
    · exact .inl rfl

theorem Control.request_busy {c : Control} (h : c.busy = true) (r : Req) (body : Control → Control) :
    c.request r body = c := by simp [Control.request, h]

theorem Control.request_idle {c : Control} (h : c.busy = false) (r : Req) (body : Control → Control) :
    c.request r body = body (c.accept r) := by simp [Control.request, h]

/-! ### Fields that no case of the round trip touches -/

@[simp] theorem Control.finishRead_conn (c : Control) : c.finishRead.conn = c.conn := by
  rw [Control.finishRead_eq]

@[simp] theorem Control.finishRead_cmd (c : Control) : c.finishRead.cmd = c.cmd := by
  rw [Control.finishRead_eq]

@[simp] theorem Control.finishRead_resp (c : Control) : c.finishRead.resp = c.resp := by
  rw [Control.finishRead_eq]

@[simp] theorem Control.finishRead_tp (c : Control) : c.finishRead.tp = c.tp := by
  rw [Control.finishRead_eq]

@[simp] theorem Control.resumeRead_conn (c : Control) : c.resumeRead.conn = c.conn := by
  unfold Control.resumeRead
  split <;> simp

@[simp] theorem Control.resumeRead_cmd (c : Control) : c.resumeRead.cmd = c.cmd := by
  unfold Control.resumeRead
  split <;> simp

@[simp] theorem Control.startRead_conn (c : Control) : c.startRead.conn = c.conn := by
  simp [Control.startRead]

@[simp] theorem Control.startRead_cmd (c : Control) : c.startRead.cmd = c.cmd := by
  simp [Control.startRead]

@[simp] theorem Control.resumeWrite_conn (c : Control) : c.resumeWrite.conn = c.conn := by
  unfold Control.resumeWrite
  split <;> simp

@[simp] theorem Control.resumeWrite_cmd (c : Control) : c.resumeWrite.cmd = c.cmd := by
  unfold Control.resumeWrite
  split <;> simp

@[simp] theorem Control.startRoundtrip_conn (c : Control) (F : List Byte) : (c.startRoundtrip F).conn = c.conn := by
  simp [Control.startRoundtrip]

@[simp] theorem Control.startRoundtrip_cmd (c : Control) (F : List Byte) : (c.startRoundtrip F).cmd = F := by
  simp [Control.startRoundtrip]

@[simp] theorem Control.roundtripAlone_conn (c : Control) (cmd : Command) : (c.roundtripAlone cmd).conn = c.conn := by
  rcases c.roundtripAlone_cases cmd with ⟨_, h⟩ | ⟨_, _, _, h⟩ <;> simp [h]

@[simp] theorem Control.command_conn (c : Control) (cmd : Command) : (c.command cmd).conn = c.conn := by
  rcases c.command_cases cmd with ⟨_, h⟩ | ⟨_, _, h⟩ | ⟨_, _, h⟩ <;> simp [h]

/-! ### The operand registers while an operation goes on (R21): what is still busy has not completed -/

theorem Control.resumeRead_op {c : Control} (h : c.resumeRead.busy = true) : c.resumeRead.op = c.op := by
  rcases hq : c.tp.readAns with _ | ⟨_ | _, rest⟩
  · rw [Control.resumeRead_nil hq]
  · simp [Control.resumeRead_data hq, Control.finishRead_eq] at h
  · simp [Control.resumeRead_fail hq] at h

theorem Control.startRead_op {c : Control} (h : c.startRead.busy = true) : c.startRead.op = c.op :=
  Control.resumeRead_op h

theorem Control.resumeWrite_op {c : Control} (h : c.resumeWrite.busy = true) : c.resumeWrite.op = c.op := by
  rcases hq : c.tp.writeAns with _ | ⟨_ | _, rest⟩
  · rw [Control.resumeWrite_nil hq]
  · rw [Control.resumeWrite_ok hq] at h ⊢
    exact Control.startRead_op h
  · simp [Control.resumeWrite_fail hq] at h

theorem Control.startRoundtrip_op {c : Control} {F : List Byte} (h : (c.startRoundtrip F).busy = true) :
    (c.startRoundtrip F).op = c.op :=
  Control.resumeWrite_op h

theorem Control.resumeConnect_op {c : Control} (h : c.resumeConnect.busy = true) : c.resumeConnect.op = c.op := by
  rcases hq : c.tp.connectAns with _ | ⟨_ | _, rest⟩
  · rw [Control.resumeConnect_nil hq]
  · simp [Control.resumeConnect_fail hq] at h
  · simp [Control.resumeConnect_ok hq] at h

theorem Control.resume_op {c : Control} (h : c.resume.busy = true) : c.resume.op = c.op := by
  unfold Control.resume at h ⊢
  split at h
  · rfl
  · exact Control.resumeConnect_op h
  · exact Control.resumeWrite_op h
  · exact Control.resumeRead_op h

/-! ### The receive agent -/

/-- A datagram is appended or reported; the session state is not touched. -/
theorem Receive.takeDatagram_eq (r : Receive) (D : List Byte) :
    r.takeDatagram D =
      if dgramCheck D then { r with dgram := D, sink := r.sink ++ [.append (extract D)] }
      else { r with dgram := D, ev := .malformedPacket, evValid := true } := by
  unfold Receive.takeDatagram
  split <;> rfl

/-- The outcome of a receive: dropped, judged, or the end of the session. -/
theorem Receive.handle_cases (r : Receive) (abandons : Bool) (o : RxOutcome) :
    (∃ D, o = .dgram D ∧ abandons = true ∧ r.rose = true ∧
      r.handle abandons o = { r with dgram := D, wait := false, rose := false }) ∨
    (∃ D, o = .dgram D ∧ (abandons && r.rose) = false ∧
      r.handle abandons o = { r with wait := false, rose := false }.takeDatagram D) ∨
    (o = .timeout ∧ r.handle abandons o = r.endSession .timeoutEnd) ∨
    (o = .sockErr ∧ r.handle abandons o = r.endSession .socketError) := by
  cases o with
  | dgram D =>
    cases h : (abandons && r.rose)
    · exact .inr (.inl ⟨D, rfl, rfl, by simp [Receive.handle, h]⟩)
    · rw [Bool.and_eq_true] at h
      exact .inl ⟨D, rfl, h.1, h.2, by simp [Receive.handle, h.1, h.2]⟩
  | timeout => exact .inr (.inr (.inl ⟨rfl, rfl⟩))
  | sockErr => exact .inr (.inr (.inr ⟨rfl, rfl⟩))

theorem Receive.resume_idle {r : Receive} (h : (r.run && r.wait) = false) (abandons : Bool) :
    r.resume abandons = r := by simp [Receive.resume, h]

theorem Receive.resume_nil {r : Receive} (h : r.outcomes = []) (abandons : Bool) : r.resume abandons = r := by
  unfold Receive.resume
  rw [h]
  split <;> rfl

theorem Receive.resume_cons {r : Receive} {o : RxOutcome} {os : List RxOutcome} (hr : r.run = true)
    (hw : r.wait = true) (h : r.outcomes = o :: os) (abandons : Bool) :
    r.resume abandons = { r with outcomes := os }.handle abandons o := by
  simp [Receive.resume, hr, hw, h]

/-- The three things ITERATE can do: nothing, end the session as cancelled, or make one receive. -/
theorem Receive.iterate_cases (r : Receive) (abandons : Bool) :
    ((r.run = false ∨ r.wait = true) ∧ r.iterate abandons = r) ∨
    (r.run = true ∧ r.wait = false ∧ r.cancel = true ∧ r.iterate abandons = r.endSession .cancelled) ∨
    (r.run = true ∧ r.wait = false ∧ r.cancel = false ∧
      r.iterate abandons =
        { r with wait := true, rose := false, sockActs := r.sockActs ++ [SockAct.receive] }.resume abandons) := by
  unfold Receive.iterate
  cases hr : r.run <;> cases hw : r.wait <;> cases hc : r.cancel <;> simp

end Sys2Proof.Machine
end

