-- ==== Sys2Proof/Laws/Memory.lean ====
section
/-! SUPPORT. The buffers keep their canonical form: no operation fills a buffer beyond its capacity (R40). -/

namespace Sys2Proof.Machine

theorem Memory.wf_iff (m : Memory) :
    m.wf = true ↔ m.cmd.length ∈ 0 :: cmdLens ∧ m.resp.length ≤ respBuf ∧ m.dgram.length ≤ dgramCap := by
  simp only [Memory.wf, Bool.and_eq_true, decide_eq_true_eq, and_assoc]

theorem reset_mem_wf : State.reset.mem.wf = true := by decide

/-- A field write keeps the form. -/
theorem Memory.write_wf {m m' : Memory} {sp : Space} {off n v : Nat} (h : m.write sp off n v = some m')
    (hw : m.wf = true) : m'.wf = true := by
  rw [Memory.wf_iff] at hw ⊢
  cases sp <;> simp only [Memory.write, Option.map_eq_some_iff] at h <;> obtain ⟨B, hB, rfl⟩ := h <;>
    have hl := writeLe_length hB <;> simpa only [hl] using hw

/-- A field read after a write to the same place. -/
theorem Memory.read_write {m m' : Memory} {sp : Space} {off n v : Nat} (h : m.write sp off n v = some m') :
    m'.read sp off n = some (v % 256 ^ n) := by
  cases sp <;> simp only [Memory.write, Option.map_eq_some_iff] at h <;> obtain ⟨B, hB, rfl⟩ := h <;>
    exact readLe_writeLe hB

/-- Every other byte of every space is left alone. -/
theorem Memory.write_frame {m m' : Memory} {sp sp' : Space} {off n v k : Nat} (h : m.write sp off n v = some m')
    (hk : sp' ≠ sp ∨ k < off ∨ off + n ≤ k) : m'.byte sp' k = m.byte sp' k := by
  cases sp <;> simp only [Memory.write, Option.map_eq_some_iff] at h <;> obtain ⟨B, hB, rfl⟩ := h <;>
    cases sp' <;> first
      | rfl
      | (simp only [ne_eq, not_true_eq_false, false_or] at hk; exact writeLe_frame hB k hk)

/-- The control agent's two buffers have the form of `Memory.wf`. -/
abbrev Control.Caps (c : Control) : Prop := c.cmd.length ∈ 0 :: cmdLens ∧ c.resp.length ≤ respBuf

theorem Command.frame_length_mem (c : Command) : c.frame.length ∈ cmdLens := by
  cases c <;> simp [Command.frame, frameStartIq, frameStopIq, frameSetMode, frameSetFreq, hz2le40, cmdLens, freqBytes]

theorem Command.frame_length_le (c : Command) : c.frame.length ≤ cmdCap := by
  have h := Command.frame_length_mem c
  simp only [cmdLens, List.mem_cons, List.not_mem_nil, or_false] at h
  show _ ≤ 10
  omega

theorem Control.resumeRead_caps {c : Control} (h : c.Caps) : c.resumeRead.Caps := by
  unfold Control.resumeRead
  split
  · exact h
  · exact h
  · exact ⟨by simpa using h.1, by simp⟩

theorem Control.resumeWrite_caps {c : Control} (h : c.Caps) : c.resumeWrite.Caps := by
  unfold Control.resumeWrite
  split
  · exact h
  · exact Control.resumeRead_caps ⟨h.1, by simp [Control.act]⟩
  · exact h

theorem Control.startRoundtrip_caps {c : Control} {F : List Byte} (h : c.Caps) (hF : F.length ∈ cmdLens) :
    (c.startRoundtrip F).Caps := Control.resumeWrite_caps ⟨List.mem_cons_of_mem 0 hF, h.2⟩

theorem Control.command_caps {c : Control} (h : c.Caps) (cmd : Command) : (c.command cmd).Caps := by
  rcases c.command_cases cmd with ⟨_, e⟩ | ⟨_, _, e⟩ | ⟨_, _, e⟩ <;> rw [e]
  · exact h
  · exact h
  · exact Control.startRoundtrip_caps h (Command.frame_length_mem cmd)

theorem Control.roundtripAlone_caps {c : Control} (h : c.Caps) (cmd : Command) : (c.roundtripAlone cmd).Caps := by
  rcases c.roundtripAlone_cases cmd with ⟨_, e⟩ | ⟨_, _, _, e⟩ <;> rw [e]
  · exact h
  · exact Control.startRoundtrip_caps h (Command.frame_length_mem cmd)

theorem Control.resumeConnect_caps {c : Control} (h : c.Caps) : c.resumeConnect.Caps := by
  unfold Control.resumeConnect
  split <;> exact h

theorem Control.resume_caps {c : Control} (h : c.Caps) : c.resume.Caps := by
  unfold Control.resume
  split
  · exact h
  · exact Control.resumeConnect_caps h
  · exact Control.resumeWrite_caps h
  · exact Control.resumeRead_caps h

theorem Receive.takeDatagram_cap {r : Receive} {D : List Byte} (hD : D.length ≤ dgramCap) :
    (r.takeDatagram D).dgram.length ≤ dgramCap := by
  rw [Receive.takeDatagram_eq]
  split <;> exact hD

theorem Receive.handle_cap {r : Receive} {o : RxOutcome} (h : r.dgram.length ≤ dgramCap)
    (ho : ∀ D, o = .dgram D → D.length ≤ dgramCap) (abandons : Bool) :
    (r.handle abandons o).dgram.length ≤ dgramCap := by
  rcases r.handle_cases abandons o with ⟨D, hD, _, _, e⟩ | ⟨D, hD, _, e⟩ | ⟨_, e⟩ | ⟨_, e⟩ <;> rw [e]
  · exact ho D hD
  · exact Receive.takeDatagram_cap (ho D hD)
  · exact h
  · exact h

end Sys2Proof.Machine
end

