-- ==== Sys2Proof/Laws/PerInstr.lean ====
section
/-! SUPPORT. The family Port: each operation's encoding stands at the interface that the format column of the opcode table
gives its row (R79). -/

namespace Sys2Proof.Laws

/-- The interface formats of R79. -/
inductive Format where
  | cmd
  | resp
  | dgram
  | req
  | rxctl
  | func
deriving DecidableEq, Repr

/-- The format of what stands at an interface. -/
def txnFormat : Txn → Format
  | .cmd _ => .cmd
  | .encFreq _ _ => .cmd
  | .resp _ => .resp
  | .dgram _ _ => .dgram
  | .req _ _ => .req
  | .rxStart => .rxctl
  | .iterate => .rxctl
  | .mhz2hz _ => .func
  | .hz2le40 _ => .func
  | .validate _ => .func
  | .admitCmd _ => .func
  | .roundtrip _ => .func
  | .parse _ => .func
  | .dgramCheck _ => .func
  | .extract _ => .func

/-- The format column of the opcode table. -/
def rowFormat : Instr → Format
  | .encStartIq => .cmd
  | .encStopIq => .cmd
  | .encSetMode _ => .cmd
  | .encSetFreq _ _ => .cmd
  | .nak => .resp
  | .ack _ => .resp
  | .uci _ _ _ _ => .resp
  | .uciMalformed _ _ _ => .resp
  | .unknown _ => .resp
  | .iq84Large _ _ _ => .dgram
  | .iq84Small _ _ _ => .dgram
  | .iq82Large _ _ _ => .dgram
  | .iq82Small _ _ _ => .dgram
  | .dgramMalformed _ => .dgram
  | .startIq _ => .req
  | .stopIq _ => .req
  | .setMode _ => .req
  | .setFreq _ => .req
  | .connect _ => .req
  | .disconnect _ => .req
  | .reqReserved6 _ => .req
  | .reqReserved7 _ => .req
  | .rxStart => .rxctl
  | .iterate => .rxctl
  | .mhz2hz _ => .func
  | .hz2le40 _ => .func
  | .validate _ => .func
  | .admitCmd _ => .func
  | .roundtrip _ => .func
  | .parse _ => .func
  | .dgramCheck _ => .func
  | .extract _ => .func

/-- The statement of the family Port. -/
def Port.Statement (i : Instr) : Prop := txnFormat (encode i) = rowFormat i

theorem Port.encStartIq : Port.Statement .encStartIq := rfl
theorem Port.encStopIq : Port.Statement .encStopIq := rfl
theorem Port.encSetMode (mode : Byte) : Port.Statement (.encSetMode mode) := rfl
theorem Port.encSetFreq (chan : Byte) (f : Mhz) : Port.Statement (.encSetFreq chan f) := by
  simp only [Port.Statement, encode]
  split <;> rfl
theorem Port.nak : Port.Statement .nak := rfl
theorem Port.ack (item : Byte) : Port.Statement (.ack item) := rfl
theorem Port.uci (b0 : Byte) (hi : BitVec 5) (code : BitVec 16) (params : List Byte) : Port.Statement (.uci b0 hi code params) := rfl
theorem Port.uciMalformed (b0 : Byte) (hi : BitVec 5) (b2 : Byte) : Port.Statement (.uciMalformed b0 hi b2) := rfl
theorem Port.unknown (raw : List Byte) : Port.Statement (.unknown raw) := rfl
theorem Port.iq84Large (r0 : Byte) (r1 : Byte) (p : List Byte) : Port.Statement (.iq84Large r0 r1 p) := rfl
theorem Port.iq84Small (r0 : Byte) (r1 : Byte) (p : List Byte) : Port.Statement (.iq84Small r0 r1 p) := rfl
theorem Port.iq82Large (r0 : Byte) (r1 : Byte) (p : List Byte) : Port.Statement (.iq82Large r0 r1 p) := rfl
theorem Port.iq82Small (r0 : Byte) (r1 : Byte) (p : List Byte) : Port.Statement (.iq82Small r0 r1 p) := rfl
theorem Port.dgramMalformed (d : List Byte) : Port.Statement (.dgramMalformed d) := rfl
theorem Port.startIq (p : Ports) : Port.Statement (.startIq p) := rfl
theorem Port.stopIq (p : Ports) : Port.Statement (.stopIq p) := rfl
theorem Port.setMode (p : Ports) : Port.Statement (.setMode p) := rfl
theorem Port.setFreq (p : Ports) : Port.Statement (.setFreq p) := rfl
theorem Port.connect (p : Ports) : Port.Statement (.connect p) := rfl
theorem Port.disconnect (p : Ports) : Port.Statement (.disconnect p) := rfl
theorem Port.reqReserved6 (p : Ports) : Port.Statement (.reqReserved6 p) := rfl
theorem Port.reqReserved7 (p : Ports) : Port.Statement (.reqReserved7 p) := rfl
theorem Port.rxStart : Port.Statement .rxStart := rfl
theorem Port.iterate : Port.Statement .iterate := rfl
theorem Port.mhz2hz (f : Mhz) : Port.Statement (.mhz2hz f) := rfl
theorem Port.hz2le40 (hz : Nat) : Port.Statement (.hz2le40 hz) := rfl
theorem Port.validate (c : Command) : Port.Statement (.validate c) := rfl
theorem Port.admitCmd (c : Command) : Port.Statement (.admitCmd c) := rfl
theorem Port.roundtrip (c : Command) : Port.Statement (.roundtrip c) := rfl
theorem Port.parse (B : List Byte) : Port.Statement (.parse B) := rfl
theorem Port.dgramCheck (D : List Byte) : Port.Statement (.dgramCheck D) := rfl
theorem Port.extract (D : List Byte) : Port.Statement (.extract D) := rfl

end Sys2Proof.Laws
end

