-- ==== Sys2Proof/Tests/Slice0.lean ====
section
/-! SUPPORT. Tests. Expected values come from the spec: the frame layouts of 30_encoding.md and the vectors V-FE, V-CE, V-RP,
V-CC and V-DR of 95_test_vectors.md. Then, for every obligation with hypotheses, a state and operands that meet them. -/

namespace Sys2Proof.Tests

open Sys2Proof Sys2Proof.Machine

/-! ### States -/

def noPorts : Ports := { mode := 0, chan := 0, freqQ := 0 }

def tp0 : Transport := Control.reset.tp

/-- Connected and idle, with answers ready. -/
def linked (ws : List WriteAns) (rs : List ReadAns) : State :=
  { State.reset with ctl := { Control.reset with conn := .connected, tp := { tp0 with writeAns := ws, readAns := rs } } }

/-- Disconnected and idle, with answers to connects ready. -/
def unlinked (cs : List Bool) : State :=
  { State.reset with ctl := { Control.reset with tp := { tp0 with connectAns := cs } } }

/-- A request in progress that waits at `w`. -/
def waiting (w : CtlWait) : State :=
  { State.reset with
    ctl := { Control.reset with conn := if w = .connect then .disconnected else .connected, busy := true, wait := w } }

/-- A session at the top of its loop. -/
def session (cancel : Bool) (os : List RxOutcome) : State :=
  { State.reset with rx := { Receive.reset with run := true, cancel := cancel, outcomes := os } }

/-- A session with its receive in progress. -/
def receiving (rose : Bool) : State :=
  { State.reset with rx := { Receive.reset with run := true, wait := true, rose := rose } }

def State.presents (s : State) (es : List Stim) : State := { s with feed := es }

def after (o : Host.Outcome State Fault Refusal) (p : State → Bool) : Bool :=
  match o with
  | .next t => p t
  | .fault _ => false
  | .refused _ => false

def big (kind : Byte) : List Byte := 0x04 :: kind :: 0x00 :: 0x00 :: List.replicate 1020 0xA5

def small (kind : Byte) : List Byte := 0x04 :: kind :: 0x7F :: 0x01 :: List.replicate 508 0xC4

/-! ### WellFormed refuses -/

theorem test_ill_unknown_nak : wellFormed (.unknown [0x02, 0x00]) = false := by decide
theorem test_ill_iq84Large : wellFormed (.iq84Large 0 0 (List.replicate 1019 0)) = false := by decide +kernel
theorem test_ill_iq84Small : wellFormed (.iq84Small 0 0 (List.replicate 509 0)) = false := by decide +kernel
theorem test_ill_iq82Large : wellFormed (.iq82Large 0 0 (List.replicate 508 0)) = false := by decide +kernel
theorem test_ill_iq82Small : wellFormed (.iq82Small 0 0 []) = false := by decide
theorem test_ill_malformed_accepted : wellFormed (.dgramMalformed (small 0x82)) = false := by decide +kernel
theorem test_ill_malformed_long : wellFormed (.dgramMalformed (List.replicate 65536 0)) = false := by
  rw [wellFormed, List.length_replicate, Bool.and_eq_false_iff]
  exact .inr (by decide)
theorem test_ill_dgramCheck : wellFormed (.dgramCheck (List.replicate 65536 0)) = false := by
  rw [wellFormed, List.length_replicate]
  decide
theorem test_ill_extract : wellFormed (.extract [0x04, 0x84, 0x00]) = false := by decide

/-! ### Decoding: a word for every constructor -/

theorem test_decode_encStartIq : decode (.cmd [0x08, 0x00, 0x18, 0x00, 0x80, 0x02, 0x80, 0x00]) = .ok .encStartIq := by
  decide
theorem test_decode_encStopIq : decode (.cmd [0x08, 0x00, 0x18, 0x00, 0x00, 0x01, 0x00, 0x00]) = .ok .encStopIq := by
  decide
theorem test_decode_encSetMode : decode (.cmd [0x05, 0x00, 0x19, 0x00, 0x03]) = .ok (.encSetMode 3) := by decide
theorem test_decode_encSetFreq : decode (.cmd [0x0A, 0x00, 0x20, 0x00, 0xFF, 0x80, 0xD1, 0xF0, 0x08, 0x00]) =
    .ok (.encSetFreq 0xFF { units := 150000000, dp := 6 }) := by decide
theorem test_decode_no_frame : decode (.cmd [0x08, 0x00, 0x18, 0x00, 0x80, 0x02, 0x80, 0x01]) =
    .error .notACommandFrame := by decide
theorem test_decode_nak : decode (.resp [0x02, 0x00]) = .ok .nak := by decide
theorem test_decode_ack : decode (.resp [0x03, 0x60, 0x03]) = .ok (.ack 3) := by decide
theorem test_decode_uci : decode (.resp [0xFF, 0xF9, 0x00, 0x80, 0x01]) = .ok (.uci 0xFF 0b11111 0x8000 [0x01]) := by
  decide
theorem test_decode_uciMalformed : decode (.resp [0x03, 0x21, 0x07]) = .ok (.uciMalformed 3 4 7) := by decide
theorem test_decode_unknown : decode (.resp [0x03, 0x68, 0x01]) = .ok (.unknown [0x03, 0x68, 0x01]) := by decide
theorem test_decode_iq84Large : decode (.dgram 7 (big 0x84)) = .ok (.iq84Large 0 0 (List.replicate 1020 0xA5)) := by
  decide +kernel
theorem test_decode_iq84Small : decode (.dgram 7 (small 0x84)) = .ok (.iq84Small 0x7F 1 (List.replicate 508 0xC4)) := by
  decide +kernel
theorem test_decode_iq82Large : decode (.dgram 7 (big 0x82)) = .ok (.iq82Large 0 0 (List.replicate 1020 0xA5)) := by
  decide +kernel
theorem test_decode_iq82Small : decode (.dgram 7 (small 0x82)) = .ok (.iq82Small 0x7F 1 (List.replicate 508 0xC4)) := by
  decide +kernel
theorem test_decode_dgramMalformed : decode (.dgram 7 [0x04, 0x84, 0, 0]) = .ok (.dgramMalformed [0x04, 0x84, 0, 0]) := by
  decide
theorem test_decode_requests :
    (List.range 8).map (fun k => decode (.req (BitVec.ofNat 3 k) noPorts)) =
      [.ok (.startIq noPorts), .ok (.stopIq noPorts), .ok (.setMode noPorts), .ok (.setFreq noPorts),
       .ok (.connect noPorts), .ok (.disconnect noPorts), .ok (.reqReserved6 noPorts), .ok (.reqReserved7 noPorts)] := by
  decide
theorem test_decode_rxctl : decode .rxStart = .ok .rxStart ∧ decode .iterate = .ok .iterate := by decide
theorem test_decode_func :
    decode (.mhz2hz { units := 1, dp := 0 }) = .ok (.mhz2hz { units := 1, dp := 0 }) ∧
    decode (.hz2le40 5) = .ok (.hz2le40 5) ∧ decode (.validate .startIq) = .ok (.validate .startIq) ∧
    decode (.admitCmd .stopIq) = .ok (.admitCmd .stopIq) ∧ decode (.roundtrip .stopIq) = .ok (.roundtrip .stopIq) ∧
    decode (.parse [2]) = .ok (.parse [2]) ∧ decode (.dgramCheck []) = .ok (.dgramCheck []) ∧
    decode (.extract [1, 2, 3, 4]) = .ok (.extract [1, 2, 3, 4]) := by decide
theorem test_decode_refuses :
    decode (.cmd [0x06, 0x00, 0x21, 0x00, 0x00, 0x00]) = .error .notACommandFrame ∧
    decode (.extract [1, 2, 3]) = .error .noPayload := by decide

/-! The table's own words. -/

theorem test_table_encSetMode : decodeTableWord 32 0x00190005 = some (.encSetMode 0) := by decide
theorem test_table_ack : decodeTableWord 16 0x6003 = some (.ack 0) := by decide
theorem test_table_uci : decodeTableWord 16 0x0100 = some (.uci 0 0 0 []) := by decide
theorem test_table_connect : decodeTableWord 8 4 = some (.connect noPorts) := by decide
theorem test_table_iq82Large : decodeTableWord 16 0x8204 = some (.iq82Large 0 0 (List.replicate 1020 0)) := by
  decide +kernel
theorem test_first_word_runs :
    after (step (State.reset.withFetchWord 64 0x0080028000180008)) (fun t =>
      t.fn == .frame [0x08, 0x00, 0x18, 0x00, 0x80, 0x02, 0x80, 0x00]) = true := by decide

/-! ### FENC (V-FE) -/

/-- V-FE-8. -/
theorem test_mhz2hz_truncates : exec (.mhz2hz { units := 339999999, dp := 7 }) State.reset =
    .next { State.reset with fn := .hz 33999999 } := by rfl
/-- V-FE-13. -/
theorem test_hz2le40_wraps : exec (.hz2le40 0x10000000001) State.reset =
    .next { State.reset with fn := .field [0x01, 0x00, 0x00, 0x00, 0x00] } := by rfl
/-- V-FE-6. -/
theorem test_encSetFreq : exec (.encSetFreq 0x02 { units := 1455, dp := 1 }) State.reset =
    .next { State.reset with fn := .frame [0x0A, 0x00, 0x20, 0x00, 0x02, 0x60, 0x27, 0xAC, 0x08, 0x00] } := by rfl

/-! ### CENC (V-CE) -/

/-- V-CE-2. -/
theorem test_encStopIq : exec .encStopIq State.reset =
    .next { State.reset with fn := .frame [0x08, 0x00, 0x18, 0x00, 0x00, 0x01, 0x00, 0x00] } := by rfl
/-- V-CE-6. -/
theorem test_encSetMode : exec (.encSetMode 0xFF) State.reset =
    .next { State.reset with fn := .frame [0x05, 0x00, 0x19, 0x00, 0xFF] } := by rfl
/-- V-CE-8. -/
theorem test_validChan : [0x00, 0x02, 0xFF, 0x01, 0x03, 0x80, 0xFE].map validChan =
    [true, true, true, false, false, false, false] := by decide
/-- V-CE-9, V-CE-10. -/
theorem test_validFreq :
    ([⟨1, 1⟩, ⟨34, 0⟩, ⟨140, 0⟩, ⟨150, 0⟩, ⟨99999999, 9⟩, ⟨34000000001, 9⟩, ⟨139999999999, 9⟩, ⟨150000000001, 9⟩] :
      List Mhz).map validFreq = [true, true, true, true, false, false, false, false] := by decide
/-- V-CE-11. -/
theorem test_validate_both : exec (.validate (.setFreq 0x01 ⟨100, 0⟩)) State.reset =
    .next { State.reset with fn := .checked .validationError 0b011 } := by rfl
/-- V-CE-14. -/
theorem test_validate_mode : exec (.validate (.setMode 7)) State.reset =
    .next { State.reset with fn := .checked .validationError 0b100 } := by rfl

/-! ### RPAR (V-RP) -/

def reply (cls : RespClass) (mal : Bool) (item : Byte) (code : BitVec 16) (plen : Nat) : Parse :=
  { cls := cls, malformed := mal, item := item, code := code, plen := plen }

/-- V-RP-2 to V-RP-6, V-RP-8, V-RP-10 to V-RP-14. -/
theorem test_parse_short :
    ([[0x02], [0x02, 0x00], [0x02, 0x01], [0x03, 0x60], [0x03, 0x60, 0x00], [0x03, 0x60, 0x04], [0x02, 0x00, 0x00],
      [0x03, 0x21, 0x07], [0x03, 0x61, 0x00], [0x03, 0x68, 0x01], [0x03, 0x60, 0x00, 0x00]] : List (List Byte)).map parse =
    [reply .unknown false 0 0 0, reply .nak false 0 0 0, reply .unknown false 0 0 0, reply .unknown false 0 0 0,
     reply .ack false 0 0 0, reply .ack true 4 0 0, reply .unknown false 0 0 0, reply .uci true 0 0 0, reply .uci true 0 0 0,
     reply .unknown false 0 0 0, reply .unknown false 0 0 0] := by decide
/-- V-RP-15 to V-RP-17, V-RP-19 to V-RP-21. -/
theorem test_parse_long :
    ([[0x04, 0x01, 0xFF, 0xFF], [0x00, 0x09, 0x01, 0x00], [0x06, 0x21, 0x34, 0x12, 0xAA, 0xBB],
      [0x05, 0x61, 0x00, 0x01, 0x02], [0x04, 0x20, 0x01, 0x00], [0x04, 0x84, 0x00, 0x00]] : List (List Byte)).map parse =
    [reply .uci false 0 0xFFFF 0, reply .uci false 0 1 0, reply .uci false 0 0x1234 2, reply .uci false 0 0x0100 1,
     reply .unknown false 0 0 0, reply .unknown false 0 0 0] := by decide
theorem test_nak_completes : after (exec .nak (waiting .read)) (fun t =>
    t.ctl.res == { resZero with cls := .nak, n := 2 } && t.ctl.resValid && !t.ctl.busy && !t.ctl.evValid) = true := by
  decide
theorem test_ack_malformed_reported : after (exec (.ack 9) (waiting .read)) (fun t =>
    t.ctl.res == { resZero with cls := .ack, n := 3, item := 9, malformed := true } &&
    t.event == some .malformedResponse) = true := by decide
theorem test_uci_completes : after (exec (.uci 6 4 0x1234 [0xAA, 0xBB]) (waiting .read)) (fun t =>
    t.ctl.res == { resZero with cls := .uci, n := 6, code := 0x1234, plen := 2 } &&
    t.readResp 4 == some 0xAA && t.readResp 5 == some 0xBB && t.readResp 6 == none) = true := by decide
theorem test_unknown_reported : after (exec (.unknown []) (waiting .read)) (fun t =>
    t.ctl.res == resZero && t.ctl.resValid && t.event == some .protocolError) = true := by decide
theorem test_uciMalformed_queued : after (exec (.uciMalformed 3 4 7) State.reset) (fun t =>
    t.ctl.tp.readAns == [.data [0x03, 0x21, 0x07]] && !t.ctl.resValid) = true := by decide

/-! ### CCTL (V-CC) -/

/-- V-CC-2. -/
theorem test_connect_fails : after (exec (.connect noPorts) (unlinked [false])) (fun t =>
    t.ctl.res == { resZero with st := .connectionError } && t.ctl.conn == .disconnected) = true := by decide
/-- V-CC-3. -/
theorem test_connect_refused : after (exec (.connect noPorts) (linked [] [])) (fun t =>
    t.ctl.res == { resZero with st := .refused } && t.ctl.conn == .connected && t.ctl.tp.acts == []) = true := by decide
/-- V-CC-4. -/
theorem test_disconnect_closes : after (exec (.disconnect noPorts) (linked [] [])) (fun t =>
    t.ctl.res == resZero && t.ctl.conn == .disconnected && t.ctl.tp.acts == [.close]) = true := by decide
/-- V-CC-5. -/
theorem test_disconnect_again : after (exec (.disconnect noPorts) (unlinked [])) (fun t =>
    t.ctl.res == resZero && t.ctl.resValid && t.ctl.tp.acts == []) = true := by decide
/-- V-CC-6. -/
theorem test_startIq_disconnected : after (exec (.startIq noPorts) (unlinked [])) (fun t =>
    t.ctl.res == { resZero with st := .stateError } && t.ctl.tp.acts == []) = true := by decide
/-- V-CC-7. -/
theorem test_setFreq_invalid_first :
    after (exec (.setFreq { noPorts with freqQ := 100000000000 }) (unlinked [])) (fun t =>
      t.ctl.res == { resZero with st := .validationError, vdet := 0b001 }) = true := by decide
/-- V-CC-10. -/
theorem test_setFreq_nak :
    after (exec (.setFreq { noPorts with freqQ := 14200000000 }) (linked [.ok] [.data [0x02, 0x00]])) (fun t =>
      t.ctl.res == { resZero with cls := .nak, n := 2 } &&
      t.ctl.tp.delivered == [0x0A, 0x00, 0x20, 0x00, 0x00, 0xC0, 0xAC, 0xD8, 0x00, 0x00]) = true := by decide
/-- V-CC-8. -/
theorem test_setMode_invalid : after (exec (.setMode { noPorts with mode := 7 }) (linked [.ok] [])) (fun t =>
    t.ctl.res == { resZero with st := .validationError, vdet := 0b100 } && t.ctl.tp.acts == []) = true := by decide
/-- V-CC-9. -/
theorem test_setMode_ack :
    after (exec (.setMode { noPorts with mode := 6 }) (linked [.ok] [.data [0x03, 0x60, 0x00]])) (fun t =>
      t.ctl.res == { resZero with cls := .ack, n := 3 } &&
      t.ctl.tp.acts == [.write [0x05, 0x00, 0x19, 0x00, 0x06], .read]) = true := by decide
/-- V-CC-11. -/
theorem test_startIq_write_fails : after (exec (.startIq noPorts) (linked [.fail 3] [.data [0x02, 0x00]])) (fun t =>
    t.ctl.res == { resZero with st := .transferError } && t.ctl.tp.delivered == [0x08, 0x00, 0x18] &&
    t.ctl.tp.readAns == [.data [0x02, 0x00]]) = true := by decide
/-- V-CC-12. -/
theorem test_stopIq_read_fails : after (exec (.stopIq noPorts) (linked [.ok] [.fail])) (fun t =>
    t.ctl.res == { resZero with st := .transferError, xdet := 1 } && t.ctl.conn == .connected &&
    t.ctl.tp.delivered == [0x08, 0x00, 0x18, 0x00, 0x00, 0x01, 0x00, 0x00]) = true := by decide
/-- V-CC-16. -/
theorem test_reserved6 : after (exec (.reqReserved6 noPorts) (linked [] [])) (fun t =>
    t.ctl.res == { resZero with st := .refused } && t.ctl.conn == .connected) = true := by decide
theorem test_reserved7 : after (exec (.reqReserved7 noPorts) (unlinked [])) (fun t =>
    t.ctl.res == { resZero with st := .refused } && t.ctl.conn == .disconnected) = true := by decide
theorem test_admit : exec (.admitCmd .startIq) State.reset =
    .next { State.reset with fn := .checked .stateError 0 } := by rfl
/-- V-CC-13, through ROUNDTRIP alone. -/
theorem test_roundtrip_empty_reply : after (exec (.roundtrip .startIq) (linked [.ok] [.data []])) (fun t =>
    t.ctl.res == resZero && t.event == some .protocolError &&
    t.ctl.tp.delivered == [0x08, 0x00, 0x18, 0x00, 0x80, 0x02, 0x80, 0x00]) = true := by decide
/-- R74: no frame with a mode above 6 reaches the wire. -/
theorem test_roundtrip_not_admitted : exec (.roundtrip (.setMode 7)) (linked [.ok] [.data []]) =
    .next (linked [.ok] [.data []]) := by rfl

/-! ### DRX (V-DR) -/

/-- V-DR-1, V-DR-4. -/
theorem test_check_accepts : dgramCheck (big 0x84) = true ∧ dgramCheck (small 0x82) = true := by decide +kernel
/-- V-DR-5 to V-DR-12. -/
theorem test_check_rejects :
    dgramCheck (0x04 :: 0x84 :: List.replicate 598 0) = false ∧ dgramCheck (0x84 :: 0x04 :: List.replicate 510 0) = false ∧
    dgramCheck (big 0x83) = false ∧ dgramCheck (big 0x80) = false ∧
    dgramCheck (0x05 :: 0x84 :: List.replicate 1022 0) = false ∧ dgramCheck [] = false ∧ dgramCheck [0x04] = false ∧
    dgramCheck [0x04, 0x84, 0x00, 0x00] = false := by decide +kernel
theorem test_extract : exec (.extract [0x04, 0x84, 0x12, 0x34, 0x56]) State.reset =
    .next { State.reset with fn := .payload [0x56] } := by rfl
theorem test_iq84Large_appends : after (exec (.iq84Large 0 0 (List.replicate 1020 0xA5)) (receiving false)) (fun t =>
    t.rx.sink == [.append (List.replicate 1020 0xA5)] && !t.rx.evValid && t.rx.run) = true := by decide +kernel
theorem test_iq82Small_appends : after (exec (.iq82Small 0x7F 1 (List.replicate 508 0xC4)) (receiving false)) (fun t =>
    t.rx.sink == [.append (List.replicate 508 0xC4)] && !t.rx.evValid) = true := by decide +kernel
theorem test_malformed_reported : after (exec (.dgramMalformed [0x04]) (receiving false)) (fun t =>
    t.rx.sink == [] && t.event == some .malformedPacket && t.rx.run) = true := by decide
/-- V-DR-20. -/
theorem test_rxStart_refused : after (exec .rxStart (session false [])) (fun t =>
    t.rx.startSt == .refused && t.rx.run) = true := by decide
/-- V-DR-14. -/
theorem test_iterate_timeout : after (exec .iterate (session false [.timeout])) (fun t =>
    t.rx.endRsn == .timeoutEnd && t.rx.endValid && !t.rx.run && t.rx.sink == [.release]) = true := by decide
/-- V-DR-16. -/
theorem test_iterate_cancelled : after (exec .iterate (session true [.timeout])) (fun t =>
    t.rx.endRsn == .cancelled && t.rx.sockActs == [.release]) = true := by decide
/-- R195: reset during a session appends nothing and releases nothing. -/
theorem test_reset_mid_session : after (step (State.presents (receiving false) [.reset 0])) (fun t =>
    !t.rx.run && t.rx.sink == [] && !t.rx.endValid) = true := by decide

/-! ### Memory -/

theorem test_mem_read_le : ({ cmd := [0x20, 0x00], resp := [], dgram := [] } : Memory).read .cmd 0 2 = some 0x0020 := by
  decide
theorem test_mem_read_unfilled : (State.reset.mem).read .resp 0 1 = none := by decide

/-! ### The codes (R118, R170) -/

theorem test_codes : ([.ok, .connectionError, .stateError, .validationError, .protocolError, .transferError, .socketError,
    .timeoutEnd, .cancelled, .malformedResponse, .malformedPacket, .refused] : List Code).map Code.bits =
    [0, 1, 2, 3, 4, 5, 6, 7, 8, 9, 10, 15] := by decide

/-! ### Witnesses: the hypotheses of each obligation, met together -/

theorem witness_DecodeEncodeEveryInstruction :
    wellFormed (.unknown []) = true ∧ wellFormed (.extract [1, 2, 3, 4]) = true ∧
    wellFormed (.roundtrip (.setMode 7)) = true ∧
    wellFormed (.iq84Large 0 0 (List.replicate 1020 0)) = true ∧ wellFormed (.dgramMalformed []) = true := by
  decide +kernel

theorem witness_DecodedInstructionWellFormed :
    decode (.resp [0x03, 0x60, 0xFF]) = .ok (.ack 255) ∧ decode (.extract [0, 0, 0, 9]) = .ok (.extract [0, 0, 0, 9]) := by
  decide

theorem witness_EncodeDecodeWireFormats :
    decodeDgram (small 0x84) = .ok (.iq84Small 0x7F 1 (List.replicate 508 0xC4)) ∧
    decodeCmd [0x05, 0x00, 0x19, 0x00, 0x06] = .ok (.encSetMode 6) := by decide +kernel

theorem witness_DecodersAgreeWithClassifiers : ([] : List Byte).length ≤ 65535 ∧ (big 0x82).length ≤ 65535 := by
  decide +kernel

theorem witness_Mhz2HzIsExactFloor : 6 ≤ ({ units := 7, dp := 6 } : Mhz).dp := by decide

theorem witness_HertzFieldIsFiveLittleEndianBytes : (0 : Nat) < 5 ∧ 4 < 5 := by decide

theorem witness_FrequencyFieldRoundTrip :
    2 ^ 40 - 1 < 2 ^ 40 ∧ ([0xFF, 0xFF, 0xFF, 0xFF, 0xFF] : List Byte).length = 5 := by decide

theorem witness_EncodersLengthOpcodeInjective :
    (Command.setMode 6).frame = (Command.setMode 6).frame ∧
    (Command.setFreq 0 ⟨14, 0⟩).frame = (Command.setFreq 0 ⟨14000000, 6⟩).frame := by decide

theorem test_inBands_low : inBands (Mhz.value ⟨1, 1⟩) := by norm_num [inBands, Mhz.value]

theorem inBands_high : inBands (Mhz.value ⟨150000000000, 9⟩) := by norm_num [inBands, Mhz.value]

theorem valid_setFreq : (Command.setFreq 0xFF ⟨150000000000, 9⟩).Valid := ⟨inBands_high, by decide⟩

theorem not_inBands : ¬ inBands (Mhz.value ⟨34000000001, 9⟩) := by norm_num [inBands, Mhz.value]

theorem witness_ValidateMarksEveryViolation :
    Command.startIq.Valid ∧ (Command.setFreq 0xFF ⟨150000000000, 9⟩).Valid ∧ (Command.setMode 6).Valid ∧
    ¬ (Command.setMode 7).Valid ∧ ¬ (Command.setFreq 0 ⟨34000000001, 9⟩).Valid :=
  ⟨trivial, valid_setFreq, by show (6 : Nat) ≤ 6; decide, by show ¬ (7 : Nat) ≤ 6; decide, fun h => not_inBands h.1⟩

theorem witness_NakAnswersRead : (waiting .read).ctl.wait = .read ∧ (waiting .read).ctl.tp.readAns = [] := by decide

theorem witness_AckAnswersRead : (waiting .read).ctl.wait = .read ∧ (waiting .read).ctl.tp.readAns = [] := by decide

theorem witness_UciAnswersRead : (List.replicate 1020 (0 : Byte)).length ≤ 1020 ∧
    (waiting .read).ctl.wait = .read ∧ (waiting .read).ctl.tp.readAns = [] := by decide +kernel

theorem witness_ShortUciAnswersRead : (waiting .read).ctl.wait = .read ∧ (waiting .read).ctl.tp.readAns = [] := by
  decide

theorem witness_UnknownAnswersRead : wellFormed (.unknown (List.replicate 1024 0)) = true ∧
    (List.replicate 1024 (0 : Byte)).length ≤ 1024 ∧
    (waiting .read).ctl.wait = .read ∧ (waiting .read).ctl.tp.readAns = [] := by decide +kernel

theorem witness_OverlongReplyIsCut :
    encode (.unknown (List.replicate 1025 0)) = .resp (List.replicate 1025 0) ∧
    1024 < (List.replicate 1025 (0 : Byte)).length ∧
    (waiting .read).ctl.wait = .read ∧ (waiting .read).ctl.tp.readAns = [] := by decide +kernel

theorem witness_UnreadReplyStaysInTransport :
    encode .nak = .resp [0x02, 0x00] ∧ (linked [] []).ctl.wait = .none ∧
    (waiting .connect).ctl.wait = .connect ∧ (waiting .connect).ctl.tp.connectAns = [] ∧
    (waiting .write).ctl.wait = .write ∧ (waiting .write).ctl.tp.writeAns = [] := by decide

theorem witness_CommandRoundTripCompletes :
    let s := linked [.ok] [.data (List.replicate 1025 0)]
    commandOf s.params.freqDp (.setFreq { mode := 0, chan := 0xFF, freqQ := 150000000000 }) =
      some (.setFreq 0xFF ⟨150000000000, 9⟩) ∧
    (Command.setFreq 0xFF ⟨150000000000, 9⟩).Valid ∧ s.ctl.busy = false ∧ s.ctl.conn = .connected ∧
    s.ctl.tp.writeAns = .ok :: [] ∧ s.ctl.tp.readAns = .data (List.replicate 1025 0) :: [] :=
  ⟨by decide, valid_setFreq, rfl, rfl, rfl, rfl⟩

theorem witness_CommandWhileDisconnectedIsStateError :
    commandOf (unlinked []).params.freqDp (.stopIq noPorts) = some .stopIq ∧ Command.stopIq.Valid ∧
    (unlinked []).ctl.busy = false ∧ (unlinked []).ctl.conn = .disconnected :=
  ⟨rfl, trivial, rfl, rfl⟩

theorem witness_InvalidParameterIsValidationError :
    commandOf (unlinked []).params.freqDp (.setMode { noPorts with mode := 7 }) = some (.setMode 7) ∧
    ¬ (Command.setMode 7).Valid ∧ (unlinked []).ctl.busy = false :=
  ⟨rfl, by show ¬ (7 : Nat) ≤ 6; decide, rfl⟩

theorem witness_WriteFailureIsTransferError :
    commandOf (linked [.fail 0] []).params.freqDp (.startIq noPorts) = some .startIq ∧ Command.startIq.Valid ∧
    (linked [.fail 0] []).ctl.busy = false ∧ (linked [.fail 0] []).ctl.conn = .connected ∧
    (linked [.fail 0] []).ctl.tp.writeAns = .fail 0 :: [] :=
  ⟨rfl, trivial, rfl, rfl, rfl⟩

theorem witness_ReadFailureIsTransferError :
    commandOf (linked [.ok] [.fail]).params.freqDp (.startIq noPorts) = some .startIq ∧ Command.startIq.Valid ∧
    (linked [.ok] [.fail]).ctl.busy = false ∧ (linked [.ok] [.fail]).ctl.conn = .connected ∧
    (linked [.ok] [.fail]).ctl.tp.writeAns = .ok :: [] ∧ (linked [.ok] [.fail]).ctl.tp.readAns = .fail :: [] :=
  ⟨rfl, trivial, rfl, rfl, rfl, rfl⟩

theorem witness_UnansweredCommandStaysBusy :
    commandOf (linked [] []).params.freqDp (.startIq noPorts) = some .startIq ∧ Command.startIq.Valid ∧
    ((linked [] []).ctl.busy = false ∧ (linked [] []).ctl.conn = .connected ∧ (linked [] []).ctl.tp.writeAns = []) ∧
    ((linked [.ok] []).ctl.busy = false ∧ (linked [.ok] []).ctl.conn = .connected ∧
      (linked [.ok] []).ctl.tp.writeAns = .ok :: [] ∧ (linked [.ok] []).ctl.tp.readAns = []) :=
  ⟨rfl, trivial, ⟨rfl, rfl, rfl⟩, ⟨rfl, rfl, rfl, rfl⟩⟩

theorem witness_BusyAcceptsNoRequest : isRequest (.connect noPorts) ∧ (waiting .write).ctl.busy = true :=
  ⟨⟨noPorts, .inr (.inr (.inr (.inr (.inl rfl))))⟩, rfl⟩

theorem witness_WaitingRequestHoldsOperands :
    ((unlinked []).ctl.busy = false ∧ (unlinked []).ctl.conn = .disconnected ∧ (unlinked []).ctl.tp.connectAns = []) ∧
    ((linked [] []).ctl.busy = false ∧ (linked [] []).ctl.conn = .connected ∧ (linked [] []).ctl.tp.writeAns = []) ∧
    ((linked [.ok] []).ctl.busy = false ∧ (linked [.ok] []).ctl.conn = .connected ∧
      (linked [.ok] []).ctl.tp.writeAns = .ok :: [] ∧ (linked [.ok] []).ctl.tp.readAns = []) ∧
    (6 : Byte).toNat ≤ 6 ∧
    inBands (Mhz.value { units := (150000000000 : BitVec 64).toNat, dp := (linked [] []).params.freqDp }) ∧
    (0xFF : Byte) ∈ chanIds :=
  ⟨⟨rfl, rfl, rfl⟩, ⟨rfl, rfl, rfl⟩, ⟨rfl, rfl, rfl, rfl⟩, by decide, inBands_high, by decide⟩

/-- A request that waits before and after a step: its write is answered, its read is not. -/
theorem witness_WaitingRequestHoldsOperands_constant :
    ∃ t, step (State.presents (waiting .write) [.writeAns .ok]) = .next t ∧
      (State.presents (waiting .write) [.writeAns .ok]).ctl.busy = true ∧ t.ctl.busy = true ∧ t.ctl.wait = .read :=
  ⟨_, rfl, by decide, by decide, by decide⟩

theorem witness_ConnectOutcomes :
    (unlinked [true]).ctl.busy = false ∧ (unlinked [true]).ctl.conn = .disconnected ∧
    (unlinked [true]).ctl.tp.connectAns = true :: [] ∧ (unlinked [false]).ctl.tp.connectAns = false :: [] ∧
    (unlinked []).ctl.tp.connectAns = [] := by decide

theorem witness_ConnectWhileConnectedRefused :
    (linked [] []).ctl.busy = false ∧ (linked [] []).ctl.conn = .connected := by decide

theorem witness_ReservedCodesRefused :
    (Instr.reqReserved7 noPorts = .reqReserved6 noPorts ∨ Instr.reqReserved7 noPorts = .reqReserved7 noPorts) ∧
    (unlinked []).ctl.busy = false := by decide

theorem witness_DisconnectNeverFails : (linked [] []).ctl.busy = false ∧ (unlinked []).ctl.busy = false := by decide

theorem witness_AdmissionOrder :
    ¬ (Command.setMode 7).Valid ∧ (Command.setFreq 0xFF ⟨150000000000, 9⟩).Valid ∧
    (unlinked []).ctl.conn = .disconnected ∧ (linked [] []).ctl.conn = .connected :=
  ⟨by show ¬ (7 : Nat) ≤ 6; decide, valid_setFreq, rfl, rfl⟩

theorem witness_RoundTripAlone :
    ((Command.setFreq 0xFF ⟨150000000000, 9⟩).Valid ∧ (linked [] []).ctl.busy = false ∧
      (linked [] []).ctl.conn = .connected ∧ (linked [] []).ctl.tp.writeAns = []) ∧
    ((linked [.ok] [.data []]).ctl.busy = false ∧ (linked [.ok] [.data []]).ctl.conn = .connected ∧
      (linked [.ok] [.data []]).ctl.tp.writeAns = .ok :: [] ∧ (linked [.ok] [.data []]).ctl.tp.readAns = .data [] :: []) ∧
    ((linked [.fail 2] []).ctl.busy = false ∧ (linked [.fail 2] []).ctl.conn = .connected ∧
      (linked [.fail 2] []).ctl.tp.writeAns = .fail 2 :: []) ∧
    ((linked [.ok] [.fail]).ctl.busy = false ∧ (linked [.ok] [.fail]).ctl.conn = .connected ∧
      (linked [.ok] [.fail]).ctl.tp.writeAns = .ok :: [] ∧ (linked [.ok] [.fail]).ctl.tp.readAns = .fail :: []) ∧
    ((linked [.ok] []).ctl.busy = false ∧ (linked [.ok] []).ctl.conn = .connected ∧
      (linked [.ok] []).ctl.tp.writeAns = .ok :: [] ∧ (linked [.ok] []).ctl.tp.readAns = []) ∧
    ¬ (Command.setMode 7).Valid ∧ (waiting .read).ctl.busy = true ∧ (unlinked []).ctl.conn = .disconnected :=
  ⟨⟨valid_setFreq, rfl, rfl, rfl⟩, ⟨rfl, rfl, rfl, rfl⟩, ⟨rfl, rfl, rfl⟩, ⟨rfl, rfl, rfl, rfl⟩, ⟨rfl, rfl, rfl, rfl⟩,
    by show ¬ (7 : Nat) ≤ 6; decide, rfl, rfl⟩

/-- A write in progress with something there for the read already (R30). -/
def writing (rs : List ReadAns) : State :=
  { waiting .write with ctl := { (waiting .write).ctl with tp := { tp0 with readAns := rs } } }

/-- The second kind of late write answer: the read finds its answer already there. -/
theorem witness_LateAnswerResumesRequest_read_ready :
    ((State.presents (writing [.data (List.replicate 1025 0)]) [.writeAns .ok]).feed = .writeAns .ok :: [] ∧
      (writing [.data (List.replicate 1025 0)]).ctl.wait = .write ∧
      (writing [.data (List.replicate 1025 0)]).ctl.tp.writeAns = [] ∧
      (writing [.data (List.replicate 1025 0)]).ctl.tp.readAns = .data (List.replicate 1025 0) :: []) ∧
    ((State.presents (writing [.fail]) [.writeAns .ok]).feed = .writeAns .ok :: [] ∧
      (writing [.fail]).ctl.wait = .write ∧ (writing [.fail]).ctl.tp.writeAns = [] ∧
      (writing [.fail]).ctl.tp.readAns = .fail :: []) :=
  ⟨⟨rfl, rfl, rfl, rfl⟩, ⟨rfl, rfl, rfl, rfl⟩⟩

theorem witness_LateAnswerResumesRequest :
    ((State.presents (waiting .connect) [.connectAns true]).feed = .connectAns true :: [] ∧
      (State.presents (waiting .connect) [.connectAns true]).ctl.wait = .connect ∧ (waiting .connect).ctl.tp.connectAns = []) ∧
    ((State.presents (waiting .write) [.writeAns .ok]).feed = .writeAns .ok :: [] ∧
      (State.presents (waiting .write) [.writeAns .ok]).ctl.busy = true ∧
      (State.presents (waiting .write) [.writeAns .ok]).ctl.wait = .write ∧
      (State.presents (waiting .write) [.writeAns .ok]).ctl.tp.writeAns = [] ∧
      (State.presents (waiting .write) [.writeAns .ok]).ctl.tp.readAns = []) ∧
    ((State.presents (waiting .write) [.writeAns (.fail 2)]).feed = .writeAns (.fail 2) :: [] ∧
      (State.presents (waiting .write) [.writeAns (.fail 2)]).ctl.wait = .write ∧
      (State.presents (waiting .write) [.writeAns (.fail 2)]).ctl.tp.writeAns = []) ∧
    ((State.presents (waiting .read) [.readFail]).feed = .readFail :: [] ∧
      (State.presents (waiting .read) [.readFail]).ctl.wait = .read ∧
      (State.presents (waiting .read) [.readFail]).ctl.tp.readAns = []) := by decide

theorem witness_ExtractPayload : 4 ≤ ([4, 0x84, 0, 0] : List Byte).length ∧ ([4, 0x84, 0] : List Byte).length < 4 := by
  decide

theorem witness_AcceptedDatagramAppended :
    (List.replicate 1020 (0 : Byte)).length = 1020 ∧ (List.replicate 508 (0 : Byte)).length = 508 ∧
    (receiving false).rx.run = true ∧ (receiving false).rx.wait = true ∧ (receiving false).rx.outcomes = [] ∧
    (receiving false).params.cancelAbandonsInflight = false ∧ (receiving false).rx.rose = false := by decide +kernel

theorem witness_MalformedDatagramReported :
    wellFormed (.dgramMalformed (List.replicate 600 0x04)) = true ∧
    (receiving true).rx.run = true ∧ (receiving true).rx.wait = true ∧ (receiving true).rx.outcomes = [] ∧
    (receiving true).params.cancelAbandonsInflight = false := by decide +kernel

/-- A session whose receive was cancelled in flight, with the parameter of U5 set. -/
def abandoning : State := { receiving true with params := { freqDp := 9, cancelAbandonsInflight := true } }

theorem witness_AbandonedDatagramDropped :
    encode (.dgramMalformed []) = .dgram 0 [] ∧ ([] : List Byte).length ≤ 65535 ∧ abandoning.rx.run = true ∧
    abandoning.rx.wait = true ∧ abandoning.rx.outcomes = [] ∧ abandoning.params.cancelAbandonsInflight = true ∧
    abandoning.rx.rose = true := by decide

/-- The same before `cancel` has risen. -/
def abandons : State := { abandoning with rx := (receiving false).rx }

/-- The steps of U5: `cancel` rises in the receive, a datagram of the greatest length ends it, the iteration is the last. -/
theorem witness_AbandonedDatagramDropped_steps :
    abandons.params.cancelAbandonsInflight = true ∧ (List.replicate 65535 (0 : Byte)).length ≤ 65535 ∧
    abandons.rx.run = true ∧ abandons.rx.wait = true ∧ abandons.rx.outcomes = [] ∧ abandons.rx.rose = false ∧
    (State.presents abandons [.cancel true, .txn (.dgram 7 (List.replicate 65535 0)), .txn .iterate]).feed =
      .cancel true :: .txn (.dgram 7 (List.replicate 65535 0)) :: .txn .iterate :: [] :=
  ⟨rfl, by rw [List.length_replicate], rfl, rfl, rfl, rfl, rfl⟩

theorem witness_UnreceivedDatagramStaysInSocket :
    encode (.dgramMalformed []) = .dgram 0 [] ∧ ([] : List Byte).length ≤ 65535 ∧
    (State.reset.rx.run && State.reset.rx.wait) = false ∧
    ((session false []).rx.run && (session false []).rx.wait) = false := by decide

theorem witness_UnreceivedDatagramStaysInSocket_long :
    encode (.dgramMalformed (List.replicate 65536 0)) = .dgram 0 (List.replicate 65536 0) ∧
    65535 < (List.replicate 65536 (0 : Byte)).length := ⟨rfl, by rw [List.length_replicate]; decide⟩

theorem witness_RxStartBeginsOneSession : State.reset.rx.run = false ∧ (session false []).rx.run = true := by decide

theorem witness_CancelAtTopEndsSession :
    (session true []).rx.run = true ∧ (session true []).rx.wait = false ∧ (session true []).rx.cancel = true := by decide

theorem witness_IterationMakesOneReceive :
    (session false []).rx.run = true ∧ (session false []).rx.wait = false ∧ (session false []).rx.cancel = false ∧
    (session false []).rx.outcomes = [] ∧ (session false [.timeout]).rx.outcomes = .timeout :: [] ∧
    (session false [.sockErr]).rx.outcomes = .sockErr :: [] ∧
    (session false [.dgram (big 0x84)]).rx.outcomes = .dgram (big 0x84) :: [] ∧ dgramCheck (big 0x84) = true ∧
    (session false [.dgram []]).rx.outcomes = .dgram [] :: [] ∧ dgramCheck [] = false := by decide +kernel

theorem witness_IterationOnlyWhileRunning : State.reset.rx.run = false ∧ (receiving false).rx.wait = true := by decide

theorem witness_CancellationIsNotPreemptive :
    let s := State.presents (receiving false) [.cancel true, .txn (.dgram 3 (small 0x84)), .txn .iterate]
    s.params.cancelAbandonsInflight = false ∧ dgramCheck (small 0x84) = true ∧ s.rx.run = true ∧ s.rx.wait = true ∧
    s.rx.outcomes = [] ∧ s.feed = [.cancel true, .txn (.dgram 3 (small 0x84)), .txn .iterate] :=
  ⟨rfl, by decide +kernel, rfl, rfl, rfl, rfl⟩

theorem witness_WaitingReceiveEndsSession :
    (State.presents (receiving false) [.timeout]).feed = .timeout :: [] ∧
    (State.presents (receiving false) [.sockErr]).feed = .sockErr :: [] ∧
    (receiving false).rx.run = true ∧ (receiving false).rx.wait = true ∧ (receiving false).rx.outcomes = [] := by decide

theorem witness_StepRunsDecodedInstruction :
    ((State.presents State.reset [.txn .rxStart]).feed = .txn .rxStart :: [] ∧ decode .rxStart = .ok .rxStart) ∧
    ((State.presents State.reset [.txn (.cmd [])]).feed = .txn (.cmd []) :: [] ∧
      decode (.cmd []) = .error .notACommandFrame) ∧ State.reset.feed = [] := by decide

theorem waiting_connect_ctl_inv : (waiting .connect).ctl.Inv where
  busy_iff := by decide
  connect_wait := by decide
  write_wait := by decide
  read_wait := by decide
  transfer_wait := by decide
  cmd_cap := by decide
  cmd_frame := .inl rfl
  wire_frames := fun _ h => nomatch h
  resp_cap := by decide
  res_shaped := by constructor <;> decide
  res_quiet := by decide
  res_idle := by decide
  ev_codes := by decide
  ev_with_res := by decide
  ev_quiet := by decide

theorem waiting_connect_rx_inv : (waiting .connect).rx.Inv where
  wait_runs := by decide
  rose_waits := by decide
  dgram_cap := by decide
  outcomes_cap := fun _ h => nomatch h
  payloads := fun _ h => nomatch h
  end_codes := by decide
  end_quiet := by decide
  start_quiet := by decide
  start_codes := by decide
  ev_codes := by decide
  ev_quiet := by decide

/-- A request waiting for its connect: a state that has the invariant and is not the reset state. -/
theorem waiting_connect_inv (es : List Stim) : (State.presents (waiting .connect) es).Inv :=
  ⟨waiting_connect_ctl_inv, waiting_connect_rx_inv, (by decide : 6 ≤ 9)⟩

theorem witness_EveryStepKeepsInvariant :
    (State.presents (waiting .connect) [.connectAns true]).Inv ∧
    ∃ t, step (State.presents (waiting .connect) [.connectAns true]) = .next t :=
  ⟨waiting_connect_inv _, _, rfl⟩

theorem witness_AgentsShareNothing :
    (side (.connect noPorts) = .control ∧ ∃ t, exec (.connect noPorts) State.reset = .next t) ∧
    (side .rxStart = .receive ∧ ∃ t, exec .rxStart State.reset = .next t) ∧
    (side (.parse []) = .function ∧ ∃ t, exec (.parse []) State.reset = .next t) :=
  ⟨⟨rfl, _, rfl⟩, ⟨rfl, _, rfl⟩, rfl, _, rfl⟩

theorem witness_AgentsCommute :
    side (.stopIq noPorts) = .control ∧ side .iterate = .receive ∧
    (∃ t, exec (.stopIq noPorts) (session false []) = .next t) ∧ ∃ u, exec .iterate (session false []) = .next u :=
  ⟨rfl, rfl, ⟨_, rfl⟩, _, rfl⟩

theorem witness_ConnChangesOnlyByConnectDisconnect :
    (State.presents (waiting .connect) [.connectAns true]).Inv ∧
    ∃ t, step (State.presents (waiting .connect) [.connectAns true]) = .next t ∧
      t.ctl.conn ≠ (State.presents (waiting .connect) [.connectAns true]).ctl.conn :=
  ⟨waiting_connect_inv _, _, rfl, by decide⟩

theorem witness_NoErrorChangesConn :
    (State.presents (waiting .connect) [.connectAns false]).Inv ∧
    ∃ t, step (State.presents (waiting .connect) [.connectAns false]) = .next t ∧
      t.ctl.resValid = true ∧ t.ctl.res.st ≠ .ok ∧ t.ctl.res.st = .connectionError :=
  ⟨waiting_connect_inv _, _, rfl, by decide, by decide, by decide⟩

theorem witness_SessionEndsWithReason :
    ∃ t, step (State.presents (receiving false) [.timeout]) = .next t ∧
      (State.presents (receiving false) [.timeout]).rx.run = true ∧ t.rx.run = false :=
  ⟨_, rfl, rfl, by decide⟩

theorem witness_OutputsAreAppendOnly : ∃ t, step (State.presents (receiving false) [.timeout]) = .next t := ⟨_, rfl⟩

theorem witness_SinkHoldsOnlyAcceptedPayloads :
    ∃ t, step (State.presents (session false [.dgram (small 0x84)]) [.txn .iterate]) = .next t ∧
      t.sinkBytes = List.replicate 508 0xC4 := ⟨_, rfl, by decide +kernel⟩

end Sys2Proof.Tests
end

/-! ## The agents share nothing (R13, R53)

What an operation of each side is, said once: a function of that agent's own record and of the open parameters, applied to
that record alone. The frame of every operation follows from these three lemmas. -/

namespace Sys2Proof.Machine

/-- Whether a datagram is delivered or stops the machine depends on its length only, not on the state (R43). -/
theorem offerDatagram_cases (D : List Byte) :
    (∀ s, offerDatagram D s = .next (s.onRx (·.offer s.params.cancelAbandonsInflight (.dgram D)))) ∨
    (∀ s, offerDatagram D s = .fault .dgramOverflow) := by
  by_cases hlen : D.length ≤ dgramCap
  · exact .inl fun s => if_pos hlen
  · exact .inr fun s => if_neg hlen

/-- What a delivered datagram does, in the form in which `exec_of_side_receive` says it of every operation. -/
theorem offerDatagram_onRx_or_fault (D : List Byte) :
    (∃ f : Params → Receive → Receive, ∀ s, offerDatagram D s = .next (s.onRx (f s.params))) ∨
    (∃ e, ∀ s, offerDatagram D s = .fault e) :=
  (offerDatagram_cases D).imp
    (fun hnext => ⟨fun p r => r.offer p.cancelAbandonsInflight (.dgram D), hnext⟩)
    (fun hfault => ⟨.dgramOverflow, hfault⟩)

/-- An operation of the control agent always completes, and is an update of the control agent's record that depends on
nothing else of the state but the parameters (SET_FREQ reads `FREQ_DP`, R8). -/
theorem exec_of_side_control {i : Instr} (hside : side i = .control) :
    ∃ f : Params → Control → Control, ∀ s, exec i s = .next (s.onCtl (f s.params)) := by
  cases i with
  | nak => exact ⟨fun _ c => c.offerRead (.data nakBytes), fun _ => rfl⟩
  | ack item => exact ⟨fun _ c => c.offerRead (.data (ackBytes item)), fun _ => rfl⟩
  | uci b0 hi code params => exact ⟨fun _ c => c.offerRead (.data (uciBytes b0 hi code params)), fun _ => rfl⟩
  | uciMalformed b0 hi b2 => exact ⟨fun _ c => c.offerRead (.data (uciShortBytes b0 hi b2)), fun _ => rfl⟩
  | unknown raw => exact ⟨fun _ c => c.offerRead (.data raw), fun _ => rfl⟩
  | startIq p => exact ⟨fun _ c => c.request { code := 0, ports := p } (·.command .startIq), fun _ => rfl⟩
  | stopIq p => exact ⟨fun _ c => c.request { code := 1, ports := p } (·.command .stopIq), fun _ => rfl⟩
  | setMode p => exact ⟨fun _ c => c.request { code := 2, ports := p } (·.command (.setMode p.mode)), fun _ => rfl⟩
  | setFreq p =>
    exact ⟨fun q c => c.request { code := 3, ports := p }
      (·.command (.setFreq p.chan (portFreq q.freqDp p.freqQ))), fun _ => rfl⟩
  | connect p => exact ⟨fun _ c => c.request { code := 4, ports := p } (·.connect), fun _ => rfl⟩
  | disconnect p => exact ⟨fun _ c => c.request { code := 5, ports := p } (·.disconnect), fun _ => rfl⟩
  | reqReserved6 p => exact ⟨fun _ c => c.request { code := 6, ports := p } (·.raise .refused 0 0), fun _ => rfl⟩
  | reqReserved7 p => exact ⟨fun _ c => c.request { code := 7, ports := p } (·.raise .refused 0 0), fun _ => rfl⟩
  | roundtrip cmd => exact ⟨fun _ c => c.roundtripAlone cmd, fun _ => rfl⟩
  | _ => cases hside

/-- An operation of the receive agent is an update of the receive agent's record that depends on nothing else of the state but
the parameters (U5), or a datagram too long to count, which stops the machine in every state. -/
theorem exec_of_side_receive {i : Instr} (hside : side i = .receive) :
    (∃ f : Params → Receive → Receive, ∀ s, exec i s = .next (s.onRx (f s.params))) ∨
    (∃ e, ∀ s, exec i s = .fault e) := by
  cases i with
  | iq84Large r0 r1 payload => exact offerDatagram_onRx_or_fault (iqBytes 0x84 r0 r1 payload)
  | iq84Small r0 r1 payload => exact offerDatagram_onRx_or_fault (iqBytes 0x84 r0 r1 payload)
  | iq82Large r0 r1 payload => exact offerDatagram_onRx_or_fault (iqBytes 0x82 r0 r1 payload)
  | iq82Small r0 r1 payload => exact offerDatagram_onRx_or_fault (iqBytes 0x82 r0 r1 payload)
  | dgramMalformed d => exact offerDatagram_onRx_or_fault d
  | rxStart => exact .inl ⟨fun _ r => r.start, fun _ => rfl⟩
  | iterate => exact .inl ⟨fun q r => r.iterate q.cancelAbandonsInflight, fun _ => rfl⟩
  | _ => cases hside

/-- A unit function run on its own gives its result, or stops the machine: EXTRACT of a sequence with no offset 4 (R146). -/
theorem exec_of_side_function {i : Instr} (hside : side i = .function) (s : State) :
    (∃ v, exec i s = .next (s.setFn v)) ∨ (∃ e, exec i s = .fault e) := by
  cases i with
  | encStartIq => exact .inl ⟨_, rfl⟩
  | encStopIq => exact .inl ⟨_, rfl⟩
  | encSetMode mode => exact .inl ⟨_, rfl⟩
  | encSetFreq chan f => exact .inl ⟨_, rfl⟩
  | mhz2hz f => exact .inl ⟨_, rfl⟩
  | hz2le40 hz => exact .inl ⟨_, rfl⟩
  | validate c => exact .inl ⟨_, rfl⟩
  | admitCmd c => exact .inl ⟨_, rfl⟩
  | parse B => exact .inl ⟨_, rfl⟩
  | dgramCheck D => exact .inl ⟨_, rfl⟩
  | extract D =>
    by_cases hlen : dgramHdr ≤ D.length
    · exact .inl ⟨_, if_pos hlen⟩
    · exact .inr ⟨_, if_neg hlen⟩
  | _ => cases hside

/-- The frame of the control agent's operations: the receive agent, the unit result, the parameters and the schedule stay. -/
theorem exec_control_frame {i : Instr} {s t : State} (hside : side i = .control) (h : exec i s = .next t) :
    t = { s with ctl := t.ctl } := by
  obtain ⟨f, hf⟩ := exec_of_side_control hside
  obtain rfl : s.onCtl (f s.params) = t := Host.Outcome.next.inj ((hf s).symm.trans h)
  rfl

/-- The frame of the receive agent's operations: the control agent, the unit result, the parameters and the schedule stay. -/
theorem exec_receive_frame {i : Instr} {s t : State} (hside : side i = .receive) (h : exec i s = .next t) :
    t = { s with rx := t.rx } := by
  obtain ⟨f, hf⟩ | ⟨e, he⟩ := exec_of_side_receive hside
  · obtain rfl : s.onRx (f s.params) = t := Host.Outcome.next.inj ((hf s).symm.trans h)
    rfl
  · cases (he s).symm.trans h

/-- The frame of the unit functions: both agents, the parameters and the schedule stay. -/
theorem exec_function_frame {i : Instr} {s t : State} (hside : side i = .function) (h : exec i s = .next t) :
    t = { s with fn := t.fn } := by
  obtain ⟨v, hv⟩ | ⟨e, he⟩ := exec_of_side_function hside s
  · obtain rfl : s.setFn v = t := Host.Outcome.next.inj (hv.symm.trans h)
    rfl
  · cases he.symm.trans h

/-- Settles O54: each operation's frame is that of its side. -/
theorem agentsShareNothing : Obligations.AgentsShareNothing := fun _ _ _ h =>
  ⟨(exec_control_frame · h), (exec_receive_frame · h), (exec_function_frame · h)⟩

end Sys2Proof.Machine

/-! ## What a step does to each agent (R13, R22, R196)

One equation for each form the schedule can have, and then, said once for each agent, the shared operation that the step is on
that agent's record. What every step keeps, and what only some steps change, follows from these cases. -/

namespace Sys2Proof.Machine

theorem step_of_feed_nil {s : State} (hfeed : s.feed = []) : step s = .next s.quiet := by
  simp [step, fetch, hfeed]

theorem step_of_decode_ok {s : State} {x : Txn} {i : Instr} {rest : List Stim} (hfeed : s.feed = .txn x :: rest)
    (hdec : decode x = .ok i) : step s = exec i ({ s with feed := rest } : State).quiet := by
  simp [step, fetch, hfeed, hdec]

theorem step_of_decode_error {s : State} {x : Txn} {e : DecodeError} {rest : List Stim}
    (hfeed : s.feed = .txn x :: rest) (hdec : decode x = .error e) : step s = .refused (.undecodable e) := by
  simp [step, fetch, hfeed, hdec]

theorem step_of_not_txn {s : State} {e : Stim} {rest : List Stim} (hfeed : s.feed = e :: rest)
    (he : ∀ x, e ≠ .txn x) : step s = .next (applyStim e ({ s with feed := rest } : State).quiet) := by
  cases e with
  | txn x => exact absurd rfl (he x)
  | _ => simp [step, fetch, hfeed]

/-- The three ways in which a step has a next state. -/
theorem step_cases {s t : State} (h : step s = .next t) :
    (s.feed = [] ∧ t = s.quiet) ∨
    (∃ x i rest, s.feed = .txn x :: rest ∧ decode x = .ok i ∧
      exec i ({ s with feed := rest } : State).quiet = .next t) ∨
    (∃ e rest, s.feed = e :: rest ∧ (∀ x, e ≠ .txn x) ∧ t = applyStim e ({ s with feed := rest } : State).quiet) := by
  rcases hfeed : s.feed with _ | ⟨e, rest⟩
  · rw [step_of_feed_nil hfeed] at h
    exact .inl ⟨rfl, (Host.Outcome.next.inj h).symm⟩
  · by_cases htxn : ∃ x, e = .txn x
    · obtain ⟨x, rfl⟩ := htxn
      cases hdec : decode x with
      | error e => cases (step_of_decode_error hfeed hdec).symm.trans h
      | ok i => exact .inr (.inl ⟨x, i, rest, rfl, hdec, (step_of_decode_ok hfeed hdec).symm.trans h⟩)
    · have he : ∀ x, e ≠ .txn x := fun x hx => htxn ⟨x, hx⟩
      rw [step_of_not_txn hfeed he] at h
      exact .inr (.inr ⟨e, rest, rfl, he, (Host.Outcome.next.inj h).symm⟩)

/-! ### The reset input, on each agent's record (R195) -/

/-- The control agent after the reset input: its transport keeps what the environment holds and has seen. -/
def Control.afterReset (c : Control) (delivered : Nat) : Control :=
  { Control.reset with
    free := c.free
    tp := if c.wait = .write then { c.tp with delivered := c.tp.delivered ++ c.cmd.take delivered } else c.tp }

/-- The receive agent after the reset input. -/
def Receive.afterReset (r : Receive) : Receive :=
  { Receive.reset with cancel := r.cancel, outcomes := r.outcomes, sockActs := r.sockActs, sink := r.sink }

theorem State.resetInput_ctl (s : State) (k : Nat) : (s.resetInput k).ctl = s.ctl.afterReset k := rfl

theorem State.resetInput_rx (s : State) (k : Nat) : (s.resetInput k).rx = s.rx.afterReset := rfl

theorem Control.afterReset_acts (c : Control) (k : Nat) : (c.afterReset k).tp.acts = c.tp.acts := by
  unfold Control.afterReset
  split <;> rfl

/-! ### The control agent -/

/-- What the head of the schedule can do to the control agent `c`: the shared operation it runs, and for those that touch the
connection state (R23) the head that runs it. -/
inductive Control.Moves (c : Control) : Option Stim → Control → Prop where
  | keep (head : Option Stim) : Moves c head c
  | readAnswer (head : Option Stim) (a : ReadAns) : Moves c head (c.offerRead a)
  | writeAnswer (head : Option Stim) (a : WriteAns) : Moves c head (c.offerWrite a)
  | connectAnswer (ok : Bool) : Moves c (some (.connectAns ok)) (c.offerConnect ok)
  | command (head : Option Stim) (r : Req) (cmd : Command) : Moves c head (c.request r (·.command cmd))
  | connect (x : Txn) (p : Ports) (r : Req) (hdec : decode x = .ok (.connect p)) :
      Moves c (some (.txn x)) (c.request r (·.connect))
  | disconnect (x : Txn) (p : Ports) (r : Req) (hdec : decode x = .ok (.disconnect p)) :
      Moves c (some (.txn x)) (c.request r (·.disconnect))
  | refuse (head : Option Stim) (r : Req) : Moves c head (c.request r (·.raise .refused 0 0))
  | roundtrip (head : Option Stim) (cmd : Command) : Moves c head (c.roundtripAlone cmd)
  | reset (k : Nat) : Moves c (some (.reset k)) (c.afterReset k)

theorem exec_ctl_moves {x : Txn} {i : Instr} {s t : State} (hdec : decode x = .ok i) (h : exec i s = .next t) :
    s.ctl.Moves (some (.txn x)) t.ctl := by
  cases hside : side i with
  | receive => rw [exec_receive_frame hside h]; exact .keep _
  | function => rw [exec_function_frame hside h]; exact .keep _
  | control =>
    cases i with
    | nak => obtain rfl := Host.Outcome.next.inj h; exact .readAnswer _ _
    | ack item => obtain rfl := Host.Outcome.next.inj h; exact .readAnswer _ _
    | uci b0 hi code params => obtain rfl := Host.Outcome.next.inj h; exact .readAnswer _ _
    | uciMalformed b0 hi b2 => obtain rfl := Host.Outcome.next.inj h; exact .readAnswer _ _
    | unknown raw => obtain rfl := Host.Outcome.next.inj h; exact .readAnswer _ _
    | startIq p => obtain rfl := Host.Outcome.next.inj h; exact .command _ _ .startIq
    | stopIq p => obtain rfl := Host.Outcome.next.inj h; exact .command _ _ .stopIq
    | setMode p => obtain rfl := Host.Outcome.next.inj h; exact .command _ _ (.setMode p.mode)
    | setFreq p =>
      obtain rfl := Host.Outcome.next.inj h
      exact .command _ _ (.setFreq p.chan (portFreq s.params.freqDp p.freqQ))
    | connect p => obtain rfl := Host.Outcome.next.inj h; exact .connect x p _ hdec
    | disconnect p => obtain rfl := Host.Outcome.next.inj h; exact .disconnect x p _ hdec
    | reqReserved6 p => obtain rfl := Host.Outcome.next.inj h; exact .refuse _ _
    | reqReserved7 p => obtain rfl := Host.Outcome.next.inj h; exact .refuse _ _
    | roundtrip cmd => obtain rfl := Host.Outcome.next.inj h; exact .roundtrip _ cmd
    | _ => cases hside

theorem applyStim_ctl_moves (e : Stim) (s : State) : s.ctl.Moves (some e) (applyStim e s).ctl := by
  cases e with
  | txn x => exact .keep _
  | connectAns ok => exact .connectAnswer ok
  | writeAns a => exact .writeAnswer _ a
  | readFail => exact .readAnswer _ .fail
  | timeout => exact .keep _
  | sockErr => exact .keep _
  | cancel level => exact .keep _
  | reset k =>
    rw [applyStim, State.resetInput_ctl]
    exact .reset k

/-- A step is one of these moves on the control agent with its outputs withdrawn. -/
theorem step_ctl_moves {s t : State} (h : step s = .next t) : s.ctl.quiet.Moves s.feed.head? t.ctl := by
  obtain ⟨_, rfl⟩ | ⟨x, i, rest, hfeed, hdec, hexec⟩ | ⟨e, rest, hfeed, _, rfl⟩ := step_cases h
  · exact .keep _
  · rw [hfeed]
    exact exec_ctl_moves hdec hexec
  · rw [hfeed]
    exact applyStim_ctl_moves e ({ s with feed := rest } : State).quiet

/-! ### The receive agent -/

/-- What the head of the schedule can do to the receive agent `r`. A datagram that comes is one whose length can be counted
(R43). -/
inductive Receive.Moves (r : Receive) (abandons : Bool) : Option Stim → Receive → Prop where
  | keep (head : Option Stim) : Moves r abandons head r
  | outcome (head : Option Stim) (o : RxOutcome) (hcap : ∀ D, o = .dgram D → D.length ≤ dgramCap) :
      Moves r abandons head (r.offer abandons o)
  | start (head : Option Stim) : Moves r abandons head r.start
  | iterate (head : Option Stim) : Moves r abandons head (r.iterate abandons)
  | setCancel (head : Option Stim) (level : Bool) : Moves r abandons head (r.setCancel level)
  | reset (k : Nat) : Moves r abandons (some (.reset k)) r.afterReset

theorem offerDatagram_rx_moves {D : List Byte} {s t : State} (head : Option Stim) (h : offerDatagram D s = .next t) :
    s.rx.Moves s.params.cancelAbandonsInflight head t.rx := by
  unfold offerDatagram at h
  split at h
  · next hlen =>
    obtain rfl := Host.Outcome.next.inj h
    exact .outcome _ _ fun _ hD => RxOutcome.dgram.inj hD ▸ hlen
  · cases h

theorem exec_rx_moves {i : Instr} {s t : State} (head : Option Stim) (h : exec i s = .next t) :
    s.rx.Moves s.params.cancelAbandonsInflight head t.rx := by
  cases hside : side i with
  | control => rw [exec_control_frame hside h]; exact .keep _
  | function => rw [exec_function_frame hside h]; exact .keep _
  | receive =>
    cases i with
    | iq84Large r0 r1 payload => exact offerDatagram_rx_moves head h
    | iq84Small r0 r1 payload => exact offerDatagram_rx_moves head h
    | iq82Large r0 r1 payload => exact offerDatagram_rx_moves head h
    | iq82Small r0 r1 payload => exact offerDatagram_rx_moves head h
    | dgramMalformed d => exact offerDatagram_rx_moves head h
    | rxStart => obtain rfl := Host.Outcome.next.inj h; exact .start _
    | iterate => obtain rfl := Host.Outcome.next.inj h; exact .iterate _
    | _ => cases hside

theorem applyStim_rx_moves (e : Stim) (s : State) :
    s.rx.Moves s.params.cancelAbandonsInflight (some e) (applyStim e s).rx := by
  cases e with
  | txn x => exact .keep _
  | connectAns ok => exact .keep _
  | writeAns a => exact .keep _
  | readFail => exact .keep _
  | timeout => exact .outcome _ _ nofun
  | sockErr => exact .outcome _ _ nofun
  | cancel level => exact .setCancel _ level
  | reset k =>
    rw [applyStim, State.resetInput_rx]
    exact .reset k

/-- A step is one of these moves on the receive agent with its outputs withdrawn. -/
theorem step_rx_moves {s t : State} (h : step s = .next t) :
    s.rx.quiet.Moves s.params.cancelAbandonsInflight s.feed.head? t.rx := by
  obtain ⟨_, rfl⟩ | ⟨x, i, rest, hfeed, _, hexec⟩ | ⟨e, rest, hfeed, _, rfl⟩ := step_cases h
  · exact .keep _
  · exact exec_rx_moves _ hexec
  · rw [hfeed]
    exact applyStim_rx_moves e ({ s with feed := rest } : State).quiet

/-! ### The parameters (R8) -/

theorem exec_params {i : Instr} {s t : State} (h : exec i s = .next t) : t.params = s.params := by
  cases hside : side i with
  | control => rw [exec_control_frame hside h]
  | receive => rw [exec_receive_frame hside h]
  | function => rw [exec_function_frame hside h]

theorem applyStim_params (e : Stim) (s : State) : (applyStim e s).params = s.params := by
  cases e <;> rfl

theorem step_params {s t : State} (h : step s = .next t) : t.params = s.params := by
  obtain ⟨_, rfl⟩ | ⟨_, _, _, _, _, hexec⟩ | ⟨e, _, _, _, rfl⟩ := step_cases h
  · rfl
  · exact (exec_params hexec).trans rfl
  · exact applyStim_params e _

/-- Settles O49: the equations of a step, for each form of the schedule. -/
theorem stepRunsDecodedInstruction : Obligations.StepRunsDecodedInstruction :=
  ⟨fun _ _ _ _ hfeed hdec => step_of_decode_ok hfeed hdec,
   fun _ _ _ _ hfeed hdec => step_of_decode_error hfeed hdec,
   fun _ hfeed => step_of_feed_nil hfeed⟩

end Sys2Proof.Machine

/-! ## Validity of a command's parameters (R100 to R102, R107) -/

namespace Sys2Proof

/-- The integer comparisons of the band check are the comparisons of the exact rational (R102). -/
theorem validFreq_iff_inBands (f : Mhz) : validFreq f = true ↔ inBands f.value := by
  have hpow : (0 : ℚ) < 10 ^ f.dp := by positivity
  have hlow : 1 / 10 ≤ f.value ↔ 10 ^ f.dp ≤ 10 * f.units := by
    rw [Mhz.value, div_le_div_iff₀ (by norm_num) hpow, one_mul, mul_comm (f.units : ℚ)]
    exact_mod_cast Iff.rfl
  have hupper (n : ℕ) : f.value ≤ n ↔ f.units ≤ n * 10 ^ f.dp := by
    rw [Mhz.value, div_le_iff₀ hpow]
    exact_mod_cast Iff.rfl
  have hlower (n : ℕ) : n ≤ f.value ↔ n * 10 ^ f.dp ≤ f.units := by
    rw [Mhz.value, le_div_iff₀ hpow]
    exact_mod_cast Iff.rfl
  simp only [validFreq, inBands, Bool.or_eq_true, Bool.and_eq_true, decide_eq_true_eq, hlow, ← hupper, ← hlower,
    Nat.cast_ofNat]

theorem validChan_iff_mem_chanIds (chan : Byte) : validChan chan = true ↔ chan ∈ chanIds := by
  simp [validChan, chanIds, or_assoc]

/-- VALIDATE finds nothing exactly for valid parameters (R107). -/
theorem vdetOf_eq_zero_iff (c : Command) : vdetOf c = 0 ↔ c.Valid := by
  cases c with
  | startIq => exact iff_of_true rfl trivial
  | stopIq => exact iff_of_true rfl trivial
  | setMode mode =>
    have hmask : vdetOf (.setMode mode) = 0 ↔ validMode mode = true := by
      simp only [vdetOf]
      cases validMode mode <;> decide
    rw [hmask, validMode, decide_eq_true_eq]
    exact Iff.rfl
  | setFreq chan f =>
    have hmask : vdetOf (.setFreq chan f) = 0 ↔ validFreq f = true ∧ validChan chan = true := by
      simp only [vdetOf]
      cases validFreq f <;> cases validChan chan <;> decide
    rw [hmask, validFreq_iff_inBands, validChan_iff_mem_chanIds]
    exact Iff.rfl

end Sys2Proof

/-! ## The shape of the result record (R27) -/

namespace Sys2Proof.Machine

/-- What PARSE can answer (R111), with the buffer lengths that allow it. -/
theorem parse_cases (B : List Byte) :
    parse B = Parse.nakRec ∨ (∃ item, parse B = Parse.ackRec item) ∨
    (4 ≤ B.length ∧ ∃ code, parse B = Parse.uciRec code (B.length - 4)) ∨
    parse B = Parse.uciMalformedRec ∨ parse B = Parse.unknownRec := by
  unfold parse
  dsimp only
  split
  · exact .inl rfl
  · split
    · exact .inr (.inl ⟨_, rfl⟩)
    · split
      · split
        · next hlen => exact .inr (.inr (.inl ⟨hlen, _, rfl⟩))
        · exact .inr (.inr (.inr (.inl rfl)))
      · exact .inr (.inr (.inr (.inr rfl)))

theorem errorRes_shaped {st : Code} {vdet : BitVec 3} {xdet : BitVec 1}
    (hst : st ∈ [Code.ok, .connectionError, .stateError, .validationError, .transferError, .refused])
    (hvdet : vdet ≠ 0 ↔ st = .validationError) (hxdet : xdet ≠ 0 → st = .transferError) :
    Res.Shaped (errorRes st vdet xdet) where
  st_code := hst
  vdet_iff := hvdet
  xdet_only := hxdet
  n_range := Nat.zero_le _
  n_only _ := ⟨rfl, rfl, rfl⟩
  item_only _ := rfl
  code_only := .inr rfl
  plen_only := .inr rfl

theorem resZero_shaped : Res.Shaped resZero := errorRes_shaped (by decide) (by decide) (by decide)

theorem connectionError_shaped : Res.Shaped (errorRes .connectionError 0 0) :=
  errorRes_shaped (by decide) (by decide) (by decide)

theorem stateError_shaped : Res.Shaped (errorRes .stateError 0 0) :=
  errorRes_shaped (by decide) (by decide) (by decide)

theorem refused_shaped : Res.Shaped (errorRes .refused 0 0) :=
  errorRes_shaped (by decide) (by decide) (by decide)

theorem transferError_shaped (xdet : BitVec 1) : Res.Shaped (errorRes .transferError 0 xdet) :=
  errorRes_shaped (by decide) (by decide) fun _ => rfl

theorem validationError_shaped {vdet : BitVec 3} (hvdet : vdet ≠ 0) : Res.Shaped (errorRes .validationError vdet 0) :=
  errorRes_shaped (by decide) (iff_of_true hvdet rfl) (by decide)

/-- The record of a completed round trip, for a slice that fits `RESP`. -/
theorem resOfParse_shaped {B : List Byte} (hB : B.length ≤ respBuf) : Res.Shaped (resOfParse (parse B) B.length) where
  st_code := by simp [resOfParse]
  vdet_iff := by simp [resOfParse]
  xdet_only := by simp [resOfParse]
  n_range := (Nat.mod_le _ _).trans hB
  n_only h := absurd rfl h
  item_only := by
    obtain h | ⟨item, h⟩ | ⟨_, code, h⟩ | h | h := parse_cases B <;> rw [h]
    case inr.inl => exact fun hcls => absurd rfl hcls
    all_goals exact fun _ => rfl
  code_only := by
    obtain h | ⟨item, h⟩ | ⟨_, code, h⟩ | h | h := parse_cases B <;> rw [h]
    case inr.inr.inl => exact .inl ⟨rfl, rfl⟩
    all_goals exact .inr rfl
  plen_only := by
    obtain h | ⟨item, h⟩ | ⟨hlen, code, h⟩ | h | h := parse_cases B <;> rw [h]
    case inr.inr.inl =>
      refine .inl ⟨rfl, rfl, ?_⟩
      have hrange : B.length < 2 ^ 11 := Nat.lt_of_le_of_lt hB (by decide)
      show (B.length - 4) % 2 ^ 11 + 4 = B.length % 2 ^ 11
      rw [Nat.mod_eq_of_lt hrange, Nat.mod_eq_of_lt (by omega)]
      omega
    all_goals exact .inr rfl

/-! ## The control agent keeps its invariant

Each shared operation leads to the invariant from one of two weaker conditions that hold inside a step. -/

/-- In the middle of an operation: nothing presented yet, and the buffers and the wire as the invariant has them. -/
structure Control.MidOperation (c : Control) : Prop where
  cmd_frame : c.cmd = [] ∨ ∃ d : Command, d.Valid ∧ c.cmd = d.frame
  wire_frames : ∀ F, TpAct.write F ∈ c.tp.acts → ∃ d : Command, d.Valid ∧ F = d.frame
  resp_cap : c.resp.length ≤ respBuf
  res_zero : c.res = resZero
  res_withdrawn : c.resValid = false
  ev_zero : c.ev = .ok
  ev_withdrawn : c.evValid = false

/-- A wait of which it is not known yet whether its answer is there. -/
structure Control.Awaiting (c : Control) : Prop extends Control.MidOperation c where
  busy_iff : c.busy = true ↔ c.wait ≠ .none
  connect_wait : c.wait = .connect → c.conn = .disconnected
  read_wait : c.wait = .read → c.resp = []
  transfer_wait : c.wait = .write ∨ c.wait = .read → c.conn = .connected

namespace Control

theorem MidOperation.cmd_cap {c : Control} (h : c.MidOperation) : c.cmd.length ≤ cmdCap := by
  obtain hnil | ⟨d, _, hd⟩ := h.cmd_frame
  · simp [hnil]
  · exact hd ▸ Command.frame_length_le d

/-- An agent that awaits an answer which is not there has the invariant. -/
theorem Awaiting.inv {c : Control} (h : c.Awaiting) (hconnect : c.wait = .connect → c.tp.connectAns = [])
    (hwrite : c.wait = .write → c.tp.writeAns = []) (hread : c.wait = .read → c.tp.readAns = []) : c.Inv where
  busy_iff := h.busy_iff
  connect_wait hw := ⟨h.connect_wait hw, hconnect hw⟩
  write_wait := hwrite
  read_wait hw := ⟨hread hw, h.read_wait hw⟩
  transfer_wait := h.transfer_wait
  cmd_cap := h.cmd_cap
  cmd_frame := h.cmd_frame
  wire_frames := h.wire_frames
  resp_cap := h.resp_cap
  res_shaped := h.res_zero ▸ resZero_shaped
  res_quiet _ := h.res_zero
  res_idle hv := absurd hv (by simp [h.res_withdrawn])
  ev_codes hv := absurd hv (by simp [h.ev_withdrawn])
  ev_with_res hv := absurd hv (by simp [h.ev_withdrawn])
  ev_quiet _ := h.ev_zero

theorem Inv.quiet_awaiting {c : Control} (h : c.Inv) : c.quiet.Awaiting where
  cmd_frame := h.cmd_frame
  wire_frames := h.wire_frames
  resp_cap := h.resp_cap
  res_zero := rfl
  res_withdrawn := rfl
  ev_zero := rfl
  ev_withdrawn := rfl
  busy_iff := h.busy_iff
  connect_wait hw := (h.connect_wait hw).1
  read_wait hw := (h.read_wait hw).2
  transfer_wait := h.transfer_wait

theorem Inv.quiet {c : Control} (h : c.Inv) : c.quiet.Inv :=
  h.quiet_awaiting.inv (fun hw => (h.connect_wait hw).2) h.write_wait (fun hw => (h.read_wait hw).1)

/-! ### Acceptance, requests to the transport, completion -/

theorem MidOperation.accept {c : Control} (h : c.MidOperation) (r : Req) : (c.accept r).MidOperation := { h with }

/-- Only frames of valid commands are written (R74, R80). -/
theorem MidOperation.act {c : Control} (h : c.MidOperation) {a : TpAct}
    (ha : ∀ F, a = .write F → ∃ d : Command, d.Valid ∧ F = d.frame) : (c.act a).MidOperation :=
  { h with
    wire_frames := fun F hF => by
      obtain hF | hF := List.mem_append.mp hF
      · exact h.wire_frames F hF
      · exact ha F (List.mem_singleton.mp hF).symm }

theorem MidOperation.complete_inv {c : Control} (h : c.MidOperation) {r : Res} (hr : Res.Shaped r) : (c.complete r).Inv where
  busy_iff := by simp
  connect_wait := by simp
  write_wait := by simp
  read_wait := by simp
  transfer_wait := by simp
  cmd_cap := h.cmd_cap
  cmd_frame := h.cmd_frame
  wire_frames := h.wire_frames
  resp_cap := h.resp_cap
  res_shaped := hr
  res_quiet := by simp
  res_idle := by simp
  ev_codes := by simp [h.ev_withdrawn]
  ev_with_res := by simp [h.ev_withdrawn]
  ev_quiet := by simp [h.ev_zero]

theorem MidOperation.raise_inv {c : Control} (h : c.MidOperation) {st : Code} {vdet : BitVec 3} {xdet : BitVec 1}
    (hshape : Res.Shaped (errorRes st vdet xdet)) : (c.raise st vdet xdet).Inv := h.complete_inv hshape

/-- A completed round trip presents its report with its result (R177, R180). -/
theorem MidOperation.finishRead_inv {c : Control} (h : c.MidOperation) : c.finishRead.Inv := by
  have hdone := h.complete_inv (resOfParse_shaped h.resp_cap)
  rw [Control.finishRead_eq]
  refine { hdone with ev_codes := fun hv => ?_, ev_with_res := fun _ => ⟨rfl, rfl⟩, ev_quiet := fun hv => ?_ }
  · simp only [h.ev_withdrawn, Bool.or_false, Bool.or_eq_true, decide_eq_true_eq] at hv
    dsimp only
    split
    · exact .inr rfl
    · next hm => exact .inl (if_pos (hv.resolve_left hm))
  · simp only [h.ev_withdrawn, Bool.or_false, Bool.or_eq_false_iff, decide_eq_false_iff_not] at hv
    simp [hv.1, hv.2, h.ev_zero]

/-! ### The waits -/

theorem Awaiting.resumeRead_inv {c : Control} (h : c.Awaiting) (hwait : c.wait = .read) : c.resumeRead.Inv := by
  rcases hq : c.tp.readAns with _ | ⟨B | _, rest⟩
  · rw [resumeRead_nil hq]
    exact h.inv (by simp [hwait]) (by simp [hwait]) fun _ => hq
  · rw [resumeRead_data hq]
    exact MidOperation.finishRead_inv { h with resp_cap := by simp }
  · rw [resumeRead_fail hq]
    refine MidOperation.raise_inv ?_ (transferError_shaped 1)
    exact { h with }

theorem MidOperation.startRead_inv {c : Control} (h : c.MidOperation) (hbusy : c.busy = true)
    (hconn : c.conn = .connected) : c.startRead.Inv := by
  have hread : { c with resp := [], wait := .read }.MidOperation := { h with resp_cap := by simp }
  exact Awaiting.resumeRead_inv
    { hread.act (a := .read) nofun with
      busy_iff := by simp [hbusy]
      connect_wait := by simp
      read_wait := by simp
      transfer_wait := by simp [hconn] } rfl

theorem Awaiting.resumeWrite_inv {c : Control} (h : c.Awaiting) (hwait : c.wait = .write) : c.resumeWrite.Inv := by
  rcases hq : c.tp.writeAns with _ | ⟨_ | k, rest⟩
  · rw [resumeWrite_nil hq]
    exact h.inv (by simp [hwait]) (fun _ => hq) (by simp [hwait])
  · rw [resumeWrite_ok hq]
    exact MidOperation.startRead_inv { h with } (h.busy_iff.mpr (by simp [hwait])) (h.transfer_wait (.inl hwait))
  · rw [resumeWrite_fail hq]
    refine MidOperation.raise_inv ?_ (transferError_shaped 0)
    exact { h with }

theorem Awaiting.resumeConnect_inv {c : Control} (h : c.Awaiting) (hwait : c.wait = .connect) : c.resumeConnect.Inv := by
  rcases hq : c.tp.connectAns with _ | ⟨_ | _, rest⟩
  · rw [resumeConnect_nil hq]
    exact h.inv (fun _ => hq) (by simp [hwait]) (by simp [hwait])
  · rw [resumeConnect_fail hq]
    refine MidOperation.raise_inv ?_ connectionError_shaped
    exact { h with }
  · rw [resumeConnect_ok hq]
    refine MidOperation.complete_inv ?_ resZero_shaped
    exact { h with }

theorem Awaiting.resume_inv {c : Control} (h : c.Awaiting) : c.resume.Inv := by
  unfold Control.resume
  split
  · next hwait => exact h.inv (by simp [hwait]) (by simp [hwait]) (by simp [hwait])
  · next hwait => exact h.resumeConnect_inv hwait
  · next hwait => exact h.resumeWrite_inv hwait
  · next hwait => exact h.resumeRead_inv hwait

/-! ### The requests -/

theorem MidOperation.startRoundtrip_inv {c : Control} (h : c.MidOperation) (hbusy : c.busy = true)
    (hconn : c.conn = .connected) {cmd : Command} (hvalid : cmd.Valid) : (c.startRoundtrip cmd.frame).Inv := by
  have hwrite : { c with cmd := cmd.frame, wait := .write }.MidOperation :=
    { h with cmd_frame := .inr ⟨cmd, hvalid, rfl⟩ }
  exact Awaiting.resumeWrite_inv
    { hwrite.act (a := .write cmd.frame) fun F hF => ⟨cmd, hvalid, (TpAct.write.inj hF).symm⟩ with
      busy_iff := by simp [hbusy]
      connect_wait := by simp
      read_wait := by simp
      transfer_wait := by simp [hconn] } rfl

theorem MidOperation.command_inv {c : Control} (h : c.MidOperation) (hbusy : c.busy = true) (cmd : Command) :
    (c.command cmd).Inv := by
  obtain ⟨hv, e⟩ | ⟨_, _, e⟩ | ⟨hv, hconn, e⟩ := c.command_cases cmd <;> rw [e]
  · exact h.raise_inv (validationError_shaped hv)
  · exact h.raise_inv stateError_shaped
  · exact h.startRoundtrip_inv hbusy hconn ((vdetOf_eq_zero_iff cmd).mp hv)

theorem MidOperation.connect_inv {c : Control} (h : c.MidOperation) (hbusy : c.busy = true) : c.connect.Inv := by
  unfold Control.connect
  split
  · exact h.raise_inv refused_shaped
  · next hconn =>
    have hopen : { c with wait := .connect }.MidOperation := { h with }
    exact Awaiting.resumeConnect_inv
      { hopen.act (a := .connect) nofun with
        busy_iff := by simp [hbusy]
        connect_wait := by simp [hconn]
        read_wait := by simp
        transfer_wait := by simp } rfl

theorem MidOperation.disconnect_inv {c : Control} (h : c.MidOperation) : c.disconnect.Inv := by
  unfold Control.disconnect
  split
  · refine MidOperation.complete_inv ?_ resZero_shaped
    exact { h.act (a := .close) nofun with }
  · exact h.complete_inv resZero_shaped

/-- A request is handled by its body, in the middle of an operation, or changes nothing. -/
theorem Inv.request_inv {c : Control} (h : c.Inv) (r : Req) {body : Control → Control}
    (hbody : ∀ d : Control, d.MidOperation → d.busy = true → (body d).Inv) : (c.quiet.request r body).Inv := by
  cases hbusy : c.quiet.busy with
  | true => rw [request_busy hbusy]; exact h.quiet
  | false => rw [request_idle hbusy]; exact hbody _ (h.quiet_awaiting.accept r) rfl

theorem Inv.roundtripAlone_inv {c : Control} (h : c.Inv) (cmd : Command) : (c.quiet.roundtripAlone cmd).Inv := by
  obtain ⟨_, e⟩ | ⟨_, hv, hconn, e⟩ := c.quiet.roundtripAlone_cases cmd <;> rw [e]
  · exact h.quiet
  · have hmid : { c.quiet with busy := true }.MidOperation := { h.quiet_awaiting with }
    exact hmid.startRoundtrip_inv rfl hconn ((vdetOf_eq_zero_iff cmd).mp hv)

/-! ### Reset, and every move -/

/-- What reset gives the agent (R32), whatever the transport holds and has seen, if the wire got frames only. -/
theorem reset_with_inv (free : Nat) (tp : Transport)
    (hwire : ∀ F, TpAct.write F ∈ tp.acts → ∃ d : Command, d.Valid ∧ F = d.frame) :
    ({ Control.reset with tp := tp, free := free } : Control).Inv where
  busy_iff := by simp [Control.reset]
  connect_wait := nofun
  write_wait := nofun
  read_wait := nofun
  transfer_wait := nofun
  cmd_cap := by simp [Control.reset]
  cmd_frame := .inl rfl
  wire_frames := hwire
  resp_cap := by simp [Control.reset]
  res_shaped := resZero_shaped
  res_quiet _ := rfl
  res_idle := nofun
  ev_codes := nofun
  ev_with_res := nofun
  ev_quiet _ := rfl

theorem reset_inv : Control.reset.Inv := reset_with_inv 0 Control.reset.tp nofun

theorem Inv.afterReset_inv {c : Control} (h : c.Inv) (k : Nat) : (c.afterReset k).Inv :=
  reset_with_inv c.free (c.afterReset k).tp (c.afterReset_acts k ▸ h.wire_frames)

theorem Inv.move {c c' : Control} {head : Option Stim} (h : c.Inv) (hmove : c.quiet.Moves head c') : c'.Inv := by
  cases hmove with
  | keep => exact h.quiet
  | readAnswer _ a => exact Awaiting.resume_inv { h.quiet_awaiting with }
  | writeAnswer _ a => exact Awaiting.resume_inv { h.quiet_awaiting with }
  | connectAnswer ok => exact Awaiting.resume_inv { h.quiet_awaiting with }
  | command _ r cmd => exact h.request_inv r fun d hd hbusy => hd.command_inv hbusy cmd
  | connect x p r => exact h.request_inv r fun d hd hbusy => hd.connect_inv hbusy
  | disconnect x p r => exact h.request_inv r fun d hd _ => hd.disconnect_inv
  | refuse _ r => exact h.request_inv r fun d hd _ => hd.raise_inv refused_shaped
  | roundtrip _ cmd => exact h.roundtripAlone_inv cmd
  | reset k => exact h.quiet.afterReset_inv k

end Control

end Sys2Proof.Machine

/-! ## The receive agent keeps its invariant -/

namespace Sys2Proof.Machine

/-- An accepted datagram has a payload of one of the two sizes of R40. -/
theorem extract_length_of_dgramCheck {D : List Byte} (h : dgramCheck D = true) :
    (extract D).length = 508 ∨ (extract D).length = 1020 := by
  have hlen : D.length = 512 ∨ D.length = 1024 := by
    unfold dgramCheck at h
    split at h
    · cases h
    · next hlen => exact (not_and_or.mp hlen).imp not_not.mp not_not.mp
  simp only [extract, dgramHdr, List.length_drop]
  omega

/-- Inside a step, before an outcome is judged: nothing presented yet, and a receive in progress may have its outcome ready. -/
structure Receive.MidReceive (r : Receive) : Prop where
  wait_runs : r.wait = true → r.run = true
  rose_waits : r.rose = true → r.wait = true
  dgram_cap : r.dgram.length ≤ dgramCap
  outcomes_cap : ∀ D, RxOutcome.dgram D ∈ r.outcomes → D.length ≤ dgramCap
  payloads : ∀ P, SinkAct.append P ∈ r.sink → P.length = 508 ∨ P.length = 1020
  start_zero : r.startSt = .ok
  start_withdrawn : r.startValid = false
  end_zero : r.endRsn = .ok
  end_withdrawn : r.endValid = false
  ev_zero : r.ev = .ok
  ev_withdrawn : r.evValid = false

namespace Receive

/-- An agent that waits for an outcome which is not there, or for none, has the invariant. -/
theorem MidReceive.inv {r : Receive} (h : r.MidReceive) (hwait : r.wait = true → r.outcomes = []) : r.Inv where
  wait_runs hw := ⟨h.wait_runs hw, hwait hw⟩
  rose_waits := h.rose_waits
  dgram_cap := h.dgram_cap
  outcomes_cap := h.outcomes_cap
  payloads := h.payloads
  end_codes := by simp [h.end_withdrawn]
  end_quiet _ := h.end_zero
  start_quiet _ := h.start_zero
  start_codes := by simp [h.start_withdrawn]
  ev_codes := by simp [h.ev_withdrawn]
  ev_quiet _ := h.ev_zero

theorem Inv.quiet_midReceive {r : Receive} (h : r.Inv) : r.quiet.MidReceive where
  wait_runs hw := (h.wait_runs hw).1
  rose_waits := h.rose_waits
  dgram_cap := h.dgram_cap
  outcomes_cap := h.outcomes_cap
  payloads := h.payloads
  start_zero := rfl
  start_withdrawn := rfl
  end_zero := rfl
  end_withdrawn := rfl
  ev_zero := rfl
  ev_withdrawn := rfl

theorem Inv.quiet {r : Receive} (h : r.Inv) : r.quiet.Inv := h.quiet_midReceive.inv fun hw => (h.wait_runs hw).2

/-! ### The outcomes of a receive -/

theorem MidReceive.endSession_inv {r : Receive} (h : r.MidReceive) {reason : Code}
    (hreason : reason ∈ [Code.socketError, .timeoutEnd, .cancelled]) : (r.endSession reason).Inv where
  wait_runs := by simp
  rose_waits := by simp
  dgram_cap := h.dgram_cap
  outcomes_cap := h.outcomes_cap
  payloads P hP := h.payloads P (by simpa using hP)
  end_codes _ := ⟨rfl, hreason⟩
  end_quiet := by simp
  start_quiet _ := h.start_zero
  start_codes := by simp [h.start_withdrawn]
  ev_codes := by simp [h.ev_withdrawn]
  ev_quiet _ := h.ev_zero

theorem MidReceive.takeDatagram_inv {r : Receive} (h : r.MidReceive) (hwait : r.wait = false) {D : List Byte}
    (hD : D.length ≤ dgramCap) : (r.takeDatagram D).Inv := by
  have hinv := h.inv (by simp [hwait])
  rw [takeDatagram_eq]
  split
  · next haccept =>
    refine { hinv with dgram_cap := hD, payloads := fun P hP => ?_ }
    obtain hP | hP := List.mem_append.mp hP
    · exact h.payloads P hP
    · rw [SinkAct.append.inj (List.mem_singleton.mp hP)]
      exact extract_length_of_dgramCheck haccept
  · exact { hinv with dgram_cap := hD, ev_codes := fun _ => rfl, ev_quiet := nofun }

theorem MidReceive.handle_inv {r : Receive} (h : r.MidReceive) (abandons : Bool) {o : RxOutcome}
    (ho : ∀ D, o = .dgram D → D.length ≤ dgramCap) : (r.handle abandons o).Inv := by
  have hended : { r with wait := false, rose := false }.MidReceive := { h with wait_runs := nofun, rose_waits := nofun }
  obtain ⟨D, hD, _, _, e⟩ | ⟨D, hD, _, e⟩ | ⟨_, e⟩ | ⟨_, e⟩ := r.handle_cases abandons o <;> rw [e]
  · exact { hended.inv nofun with dgram_cap := ho D hD }
  · exact hended.takeDatagram_inv rfl (ho D hD)
  · exact h.endSession_inv (by decide)
  · exact h.endSession_inv (by decide)

theorem MidReceive.resume_inv {r : Receive} (h : r.MidReceive) (abandons : Bool) : (r.resume abandons).Inv := by
  cases hwait : r.wait with
  | false =>
    rw [resume_idle (by simp [hwait])]
    exact h.inv (by simp [hwait])
  | true =>
    rcases hq : r.outcomes with _ | ⟨o, os⟩
    · rw [resume_nil hq]
      exact h.inv fun _ => hq
    · rw [resume_cons (h.wait_runs hwait) hwait hq]
      have hcap : ∀ D, RxOutcome.dgram D ∈ o :: os → D.length ≤ dgramCap := hq ▸ h.outcomes_cap
      refine MidReceive.handle_inv ?_ abandons fun D hD => hcap D (hD ▸ List.mem_cons_self)
      exact { h with outcomes_cap := fun D hD => hcap D (List.mem_cons_of_mem o hD) }

/-! ### The operations -/

theorem Inv.offer_inv {r : Receive} (h : r.Inv) (abandons : Bool) {o : RxOutcome}
    (ho : ∀ D, o = .dgram D → D.length ≤ dgramCap) : (r.quiet.offer abandons o).Inv := by
  refine MidReceive.resume_inv ?_ abandons
  refine { h.quiet_midReceive with outcomes_cap := fun D hD => ?_ }
  obtain hD | hD := List.mem_append.mp hD
  · exact h.outcomes_cap D hD
  · exact ho D (List.mem_singleton.mp hD).symm

theorem Inv.start_inv {r : Receive} (h : r.Inv) : r.quiet.start.Inv := by
  unfold Receive.start
  split
  · exact { h.quiet with start_quiet := nofun, start_codes := fun _ => .inr rfl }
  · exact { h.quiet with
      wait_runs := nofun, rose_waits := nofun, end_codes := nofun, start_quiet := nofun, start_codes := fun _ => .inl rfl }

theorem Inv.iterate_inv {r : Receive} (h : r.Inv) (abandons : Bool) : (r.quiet.iterate abandons).Inv := by
  obtain ⟨_, e⟩ | ⟨_, _, _, e⟩ | ⟨hrun, _, _, e⟩ := r.quiet.iterate_cases abandons <;> rw [e]
  · exact h.quiet
  · exact h.quiet_midReceive.endSession_inv (by decide)
  · refine MidReceive.resume_inv ?_ abandons
    exact { h.quiet_midReceive with wait_runs := fun _ => hrun, rose_waits := nofun }

theorem Inv.setCancel_inv {r : Receive} (h : r.Inv) (level : Bool) : (r.setCancel level).Inv :=
  { h with
    rose_waits := fun hrose => by
      rw [setCancel_rose, Bool.or_eq_true, Bool.and_eq_true, Bool.and_eq_true] at hrose
      exact hrose.elim h.rose_waits fun ⟨⟨_, hwait⟩, _⟩ => hwait }

/-- What reset gives the agent (R32), whatever the environment holds and has seen, if that is within its bounds. -/
theorem reset_with_inv (cancel : Bool) {outcomes : List RxOutcome} (sockActs : List SockAct) {sink : List SinkAct}
    (hcap : ∀ D, RxOutcome.dgram D ∈ outcomes → D.length ≤ dgramCap)
    (hsink : ∀ P, SinkAct.append P ∈ sink → P.length = 508 ∨ P.length = 1020) :
    ({ Receive.reset with cancel := cancel, outcomes := outcomes, sockActs := sockActs, sink := sink } : Receive).Inv where
  wait_runs := nofun
  rose_waits := nofun
  dgram_cap := by simp [Receive.reset]
  outcomes_cap := hcap
  payloads := hsink
  end_codes := nofun
  end_quiet _ := rfl
  start_quiet _ := rfl
  start_codes := nofun
  ev_codes := nofun
  ev_quiet _ := rfl

theorem reset_inv : Receive.reset.Inv := reset_with_inv false [] nofun nofun

theorem Inv.afterReset_inv {r : Receive} (h : r.Inv) : r.afterReset.Inv :=
  reset_with_inv r.cancel r.sockActs h.outcomes_cap h.payloads

theorem Inv.move {r r' : Receive} {abandons : Bool} {head : Option Stim} (h : r.Inv)
    (hmove : r.quiet.Moves abandons head r') : r'.Inv := by
  cases hmove with
  | keep => exact h.quiet
  | outcome _ o ho => exact h.offer_inv abandons ho
  | start => exact h.start_inv
  | iterate => exact h.iterate_inv abandons
  | setCancel _ level => exact h.quiet.setCancel_inv level
  | reset k => exact h.quiet.afterReset_inv

end Receive

/-! ## The invariant of the machine -/

/-- Settles O53: each agent's move keeps that agent's part, and the parameters are not written. -/
theorem everyStepKeepsInvariant : Obligations.EveryStepKeepsInvariant := fun _ _ hinv hstep =>
  { ctl := hinv.ctl.move (step_ctl_moves hstep)
    rx := hinv.rx.move (step_rx_moves hstep)
    freq_dp := step_params hstep ▸ hinv.freq_dp }

/-- Settles O52: both agents' parts, at what reset gives, and the default `FREQ_DP` of 9. -/
theorem invariantAtReset : Obligations.InvariantAtReset :=
  { ctl := Control.reset_inv, rx := Receive.reset_inv, freq_dp := (by decide : 6 ≤ 9) }

end Sys2Proof.Machine

/-! ## The connection state (R23) -/

namespace Sys2Proof.Machine

/-- A waiting request that goes on leaves `conn` alone, unless it is a CONNECT that is answered. -/
theorem Control.resume_conn {c : Control} (h : c.wait = .connect → c.tp.connectAns = []) : c.resume.conn = c.conn := by
  unfold Control.resume
  split
  · rfl
  · next hwait => rw [resumeConnect_nil (h hwait)]
  · exact c.resumeWrite_conn
  · exact c.resumeRead_conn

theorem Control.offerRead_conn {c : Control} (h : c.wait = .connect → c.tp.connectAns = []) (a : ReadAns) :
    (c.offerRead a).conn = c.conn := Control.resume_conn (c := { c with tp := _ }) h

theorem Control.offerWrite_conn {c : Control} (h : c.wait = .connect → c.tp.connectAns = []) (a : WriteAns) :
    (c.offerWrite a).conn = c.conn := Control.resume_conn (c := { c with tp := _ }) h

/-- An answer to a connect changes `conn` only if it is positive and a CONNECT waits for it (R125). -/
theorem Control.offerConnect_conn_cases {c : Control} (h : c.wait = .connect → c.tp.connectAns = []) (ok : Bool) :
    (c.offerConnect ok).conn = c.conn ∨ (ok = true ∧ c.wait = .connect ∧ (c.offerConnect ok).conn = .connected) := by
  by_cases hwait : c.wait = .connect
  · cases ok <;> simp [Control.offerConnect, Control.resume, Control.resumeConnect, hwait, h hwait]
  · exact .inl (Control.resume_conn (c := { c with tp := _ }) fun hw => absurd hw hwait)

theorem Control.resumeConnect_conn_cases (c : Control) :
    c.resumeConnect.conn = c.conn ∨ c.resumeConnect.conn = .connected := by
  rcases hq : c.tp.connectAns with _ | ⟨_ | _, rest⟩
  · exact .inl (by rw [resumeConnect_nil hq])
  · exact .inl (by simp [resumeConnect_fail hq])
  · exact .inr (by simp [resumeConnect_ok hq])

theorem Control.connect_conn_cases (c : Control) : c.connect.conn = c.conn ∨ c.connect.conn = .connected := by
  unfold Control.connect
  split
  · exact .inl rfl
  · exact Control.resumeConnect_conn_cases _

theorem Control.disconnect_conn (c : Control) : c.disconnect.conn = .disconnected := by
  unfold Control.disconnect
  split
  · rfl
  · next hconn => exact hconn

/-- A request changes `conn` only as its body does. -/
theorem Control.request_conn_cases (c : Control) (r : Req) (body : Control → Control) :
    (c.request r body).conn = c.conn ∨ (c.request r body).conn = (body (c.accept r)).conn := by
  cases hbusy : c.busy with
  | true => exact .inl (by rw [request_busy hbusy])
  | false => exact .inr (by rw [request_idle hbusy])

/-- Of the control agent's moves, those that can change `conn`, each with its direction. -/
theorem Control.Moves.conn_changes {c c' : Control} {head : Option Stim} (hmove : c.Moves head c')
    (hconnect : c.wait = .connect → c.tp.connectAns = []) (hne : c'.conn ≠ c.conn) :
    ∃ e, head = some e ∧
      ((∃ x p, e = .txn x ∧ decode x = .ok (.connect p) ∧ c'.conn = .connected) ∨
       (∃ x p, e = .txn x ∧ decode x = .ok (.disconnect p) ∧ c'.conn = .disconnected) ∨
       (e = .connectAns true ∧ c.wait = .connect ∧ c'.conn = .connected) ∨ (∃ k, e = .reset k)) := by
  cases hmove with
  | keep => exact absurd rfl hne
  | readAnswer _ a => exact absurd (offerRead_conn hconnect a) hne
  | writeAnswer _ a => exact absurd (offerWrite_conn hconnect a) hne
  | connectAnswer ok =>
    obtain ⟨rfl, hwait, hconn⟩ := (offerConnect_conn_cases hconnect ok).resolve_left hne
    exact ⟨_, rfl, .inr (.inr (.inl ⟨rfl, hwait, hconn⟩))⟩
  | command _ r cmd =>
    have hbody := (c.request_conn_cases r (·.command cmd)).resolve_left hne
    exact absurd (hbody.trans (command_conn _ cmd)) hne
  | connect x p r hdec =>
    have hbody := (c.request_conn_cases r (·.connect)).resolve_left hne
    have hconn := (connect_conn_cases (c.accept r)).resolve_left fun hsame => hne (hbody.trans hsame)
    exact ⟨_, rfl, .inl ⟨x, p, rfl, hdec, hbody.trans hconn⟩⟩
  | disconnect x p r hdec =>
    have hbody := (c.request_conn_cases r (·.disconnect)).resolve_left hne
    exact ⟨_, rfl, .inr (.inl ⟨x, p, rfl, hdec, hbody.trans (disconnect_conn _)⟩)⟩
  | refuse _ r => exact absurd ((c.request_conn_cases r (·.raise .refused 0 0)).resolve_left hne) hne
  | roundtrip _ cmd => exact absurd (c.roundtripAlone_conn cmd) hne
  | reset k => exact ⟨_, rfl, .inr (.inr (.inr ⟨k, rfl⟩))⟩

/-- Settles O56: a step is a move of the control agent, and the invariant says that a waiting CONNECT has no answer ready. -/
theorem connChangesOnlyByConnectDisconnect : Obligations.ConnChangesOnlyByConnectDisconnect := by
  intro s t hinv hstep hne
  obtain ⟨e, hhead, hcause⟩ :=
    (step_ctl_moves hstep).conn_changes (fun hwait => (hinv.ctl.connect_wait hwait).2) hne
  obtain ⟨rest, hfeed⟩ := List.head?_eq_some_iff.mp hhead
  exact ⟨e, rest, hfeed, hcause⟩

/-! ## The ends of a session (R25, R157) -/

/-- The session of `r` has ended in `r'` by END (R157): the reason presented, sink and socket released once, nothing else. -/
structure Receive.EndedIn (r r' : Receive) : Prop where
  endValid : r'.endValid = true
  endRsn : r'.endRsn ∈ [Code.timeoutEnd, .cancelled, .socketError]
  sink : r'.sink = r.sink ++ [.release]
  sockActs : r'.sockActs = r.sockActs ++ [.release]

theorem Receive.endSession_endedIn (r : Receive) {reason : Code}
    (hreason : reason ∈ [Code.timeoutEnd, .cancelled, .socketError]) : r.EndedIn (r.endSession reason) :=
  ⟨rfl, hreason, rfl, rfl⟩

@[simp] theorem Receive.takeDatagram_run (r : Receive) (D : List Byte) : (r.takeDatagram D).run = r.run := by
  rw [takeDatagram_eq]
  split <;> rfl

/-- A datagram ends no session (R147, R148). -/
theorem Receive.handle_endedIn {r : Receive} {abandons : Bool} {o : RxOutcome}
    (hend : (r.handle abandons o).run = false) (hrun : r.run = true) : r.EndedIn (r.handle abandons o) := by
  obtain ⟨D, _, _, _, e⟩ | ⟨D, _, _, e⟩ | ⟨_, e⟩ | ⟨_, e⟩ := r.handle_cases abandons o <;> rw [e] at hend ⊢
  · exact absurd (hrun.symm.trans hend) nofun
  · rw [takeDatagram_run] at hend
    exact absurd (hrun.symm.trans hend) nofun
  · exact r.endSession_endedIn (by decide)
  · exact r.endSession_endedIn (by decide)

theorem Receive.resume_endedIn {r : Receive} {abandons : Bool} (hend : (r.resume abandons).run = false)
    (hrun : r.run = true) : r.EndedIn (r.resume abandons) := by
  cases hwait : r.wait with
  | false =>
    rw [resume_idle (by simp [hwait])] at hend
    exact absurd (hrun.symm.trans hend) nofun
  | true =>
    rcases hq : r.outcomes with _ | ⟨o, os⟩
    · rw [resume_nil hq] at hend
      exact absurd (hrun.symm.trans hend) nofun
    · rw [resume_cons hrun hwait hq] at hend ⊢
      exact { handle_endedIn hend hrun with }

theorem Receive.offer_endedIn {r : Receive} {abandons : Bool} {o : RxOutcome}
    (hend : (r.offer abandons o).run = false) (hrun : r.run = true) : r.EndedIn (r.offer abandons o) :=
  { resume_endedIn (r := { r with outcomes := _ }) hend hrun with }

/-- An iteration that ends the session does so before its receive (R156), or by the outcome of that receive. -/
theorem Receive.iterate_endedIn {r : Receive} {abandons : Bool} (hend : (r.iterate abandons).run = false)
    (hrun : r.run = true) :
    r.EndedIn (r.iterate abandons) ∨ { r with sockActs := r.sockActs ++ [SockAct.receive] }.EndedIn (r.iterate abandons) := by
  obtain ⟨_, e⟩ | ⟨_, _, _, e⟩ | ⟨_, _, _, e⟩ := r.iterate_cases abandons <;> rw [e] at hend ⊢
  · exact absurd (hrun.symm.trans hend) nofun
  · exact .inl (r.endSession_endedIn (by decide))
  · exact .inr { resume_endedIn hend hrun with }

theorem Receive.start_run (r : Receive) : r.start.run = true := by
  unfold Receive.start
  split
  · assumption
  · rfl

/-- Of the receive agent's moves, those that can end a session. -/
theorem Receive.Moves.session_ends {r r' : Receive} {abandons : Bool} {head : Option Stim}
    (hmove : r.Moves abandons head r') (hrun : r.run = true) (hend : r'.run = false) :
    (∃ k, head = some (.reset k)) ∨ r.EndedIn r' ∨
      { r with sockActs := r.sockActs ++ [SockAct.receive] }.EndedIn r' := by
  cases hmove with
  | keep => exact absurd (hrun.symm.trans hend) nofun
  | outcome => exact .inr (.inl (offer_endedIn hend hrun))
  | start => exact absurd (r.start_run.symm.trans hend) nofun
  | iterate => exact .inr (iterate_endedIn hend hrun)
  | setCancel => exact absurd (hrun.symm.trans hend) nofun
  | reset k => exact .inl ⟨k, rfl⟩

/-- Settles O58: a step is a move of the receive agent. -/
theorem sessionEndsWithReason : Obligations.SessionEndsWithReason := by
  intro s t hstep hrun hend
  obtain ⟨k, hhead⟩ | ⟨hvalid, hreason, hsink, hsock⟩ | ⟨hvalid, hreason, hsink, hsock⟩ :=
    (step_rx_moves hstep).session_ends hrun hend
  · obtain ⟨rest, hfeed⟩ := List.head?_eq_some_iff.mp hhead
    exact .inl ⟨k, rest, hfeed⟩
  · exact .inr ⟨hvalid, hreason, hsink, .inl hsock⟩
  · exact .inr ⟨hvalid, hreason, hsink, .inr (hsock.trans (List.append_assoc ..))⟩

/-! ## Requests and the operand registers (R21, R24) -/

/-- Every host request is its body behind the test of `busy` (R24, R133). -/
theorem exec_of_isRequest {i : Instr} (hreq : isRequest i) (s : State) :
    ∃ r body, exec i s = .next (s.onCtl (·.request r body)) := by
  obtain ⟨p, rfl | rfl | rfl | rfl | rfl | rfl | rfl | rfl⟩ := hreq <;> exact ⟨_, _, rfl⟩

/-- Settles O28: the test of `busy` comes before the body of every request. -/
theorem busyAcceptsNoRequest : Obligations.BusyAcceptsNoRequest := by
  intro i s hreq hbusy
  obtain ⟨r, body, hexec⟩ := exec_of_isRequest hreq s
  rw [hexec, State.onCtl, Control.request_busy hbusy]

/-- What is busy before and after a move has not completed, so its operands stand. -/
theorem Control.Moves.op_eq {c c' : Control} {head : Option Stim} (hmove : c.Moves head c') (hbusy : c.busy = true)
    (hbusy' : c'.busy = true) : c'.op = c.op := by
  cases hmove with
  | keep => rfl
  | readAnswer _ a => exact Control.resume_op hbusy'
  | writeAnswer _ a => exact Control.resume_op hbusy'
  | connectAnswer ok => exact Control.resume_op hbusy'
  | command _ r cmd => rw [request_busy hbusy]
  | connect x p r => rw [request_busy hbusy]
  | disconnect x p r => rw [request_busy hbusy]
  | refuse _ r => rw [request_busy hbusy]
  | roundtrip _ cmd =>
    obtain ⟨_, e⟩ | ⟨hidle, _⟩ := c.roundtripAlone_cases cmd
    · rw [e]
    · exact absurd (hbusy.symm.trans hidle) nofun
  | reset k => exact absurd hbusy' nofun

/-- The transport has no answer for the write, or none for the read after it (R202). -/
def Control.Unanswered (c : Control) : Prop :=
  c.tp.writeAns = [] ∨ ∃ ws, c.tp.writeAns = .ok :: ws ∧ c.tp.readAns = []

theorem Control.startRoundtrip_busy {c : Control} (h : c.Unanswered) (F : List Byte) :
    (c.startRoundtrip F).busy = c.busy := by
  unfold Control.startRoundtrip
  obtain hw | ⟨ws, hw, hr⟩ := h
  · rw [resumeWrite_nil (by exact hw)]
    rfl
  · rw [resumeWrite_ok (by exact hw), startRead, resumeRead_nil (by exact hr)]
    rfl

/-- A command request with valid parameters, made while connected and idle, that the transport leaves unanswered. -/
theorem Control.request_command_waits {c : Control} (hidle : c.busy = false) (hconn : c.conn = .connected)
    (hwait : c.Unanswered) {cmd : Command} (hvalid : cmd.Valid) (r : Req) :
    (c.request r (·.command cmd)).busy = true ∧ (c.request r (·.command cmd)).op = r := by
  have hstart : c.request r (·.command cmd) = (c.accept r).startRoundtrip cmd.frame := by
    rw [request_idle hidle]
    obtain ⟨hv, _⟩ | ⟨_, hd, _⟩ | ⟨_, _, e⟩ := (c.accept r).command_cases cmd
    · exact absurd ((vdetOf_eq_zero_iff cmd).mpr hvalid) hv
    · exact absurd (hconn.symm.trans hd) nofun
    · exact e
  have hbusy : ((c.accept r).startRoundtrip cmd.frame).busy = true := startRoundtrip_busy (c := c.accept r) hwait _
  rw [hstart]
  exact ⟨hbusy, startRoundtrip_op hbusy⟩

theorem Control.request_connect_waits {c : Control} (hidle : c.busy = false) (hconn : c.conn = .disconnected)
    (hwait : c.tp.connectAns = []) (r : Req) :
    (c.request r (·.connect)).busy = true ∧ (c.request r (·.connect)).op = r := by
  simp [request_idle hidle, connect, resumeConnect, hconn, hwait]

/-- Settles O29: the operands are those of the acceptance, and no move of an agent that stays busy writes them. -/
theorem waitingRequestHoldsOperands : Obligations.WaitingRequestHoldsOperands := by
  refine ⟨fun p s hidle => ⟨fun hconn hwait => ?_, fun hconn hwait => ⟨?_, ?_, fun hmode => ?_, fun hfreq hchan => ?_⟩⟩,
    fun s t hstep hbusy hbusy' => (step_ctl_moves hstep).op_eq hbusy hbusy'⟩
  · exact ⟨_, rfl, Control.request_connect_waits hidle hconn hwait _⟩
  · exact ⟨_, rfl, Control.request_command_waits hidle hconn hwait (cmd := .startIq) trivial _⟩
  · exact ⟨_, rfl, Control.request_command_waits hidle hconn hwait (cmd := .stopIq) trivial _⟩
  · exact ⟨_, rfl, Control.request_command_waits hidle hconn hwait (cmd := .setMode p.mode) hmode _⟩
  · exact ⟨_, rfl, Control.request_command_waits hidle hconn hwait
      (cmd := .setFreq p.chan (portFreq s.params.freqDp p.freqQ)) ⟨hfreq, hchan⟩ _⟩

/-! ## What comes while nobody waits for it (R30) -/

/-- Every operation of format RESP is its bytes found by a read. -/
theorem exec_of_encode_resp {i : Instr} {B : List Byte} (henc : encode i = .resp B) (s : State) :
    exec i s = .next (s.onCtl (·.offerRead (.data B))) := by
  cases i with
  | nak => cases henc; rfl
  | ack item => cases henc; rfl
  | uci b0 hi code params => cases henc; rfl
  | uciMalformed b0 hi b2 => cases henc; rfl
  | unknown raw => cases henc; rfl
  | encSetFreq chan f =>
    simp only [encode] at henc
    split at henc <;> cases henc
  | _ => cases henc

/-- Every operation of format DGRAM is its datagram delivered by the socket. -/
theorem exec_of_encode_dgram {i : Instr} {sender : Nat} {D : List Byte} (henc : encode i = .dgram sender D) (s : State) :
    exec i s = offerDatagram D s := by
  cases i with
  | iq84Large r0 r1 payload => cases henc; rfl
  | iq84Small r0 r1 payload => cases henc; rfl
  | iq82Large r0 r1 payload => cases henc; rfl
  | iq82Small r0 r1 payload => cases henc; rfl
  | dgramMalformed d => cases henc; rfl
  | encSetFreq chan f =>
    simp only [encode] at henc
    split at henc <;> cases henc
  | _ => cases henc

theorem Control.resume_unanswered {c : Control}
    (h : c.wait = .none ∨ (c.wait = .connect ∧ c.tp.connectAns = []) ∨ (c.wait = .write ∧ c.tp.writeAns = [])) :
    c.resume = c := by
  obtain hw | ⟨hw, hq⟩ | ⟨hw, hq⟩ := h
  · simp [resume, hw]
  · simp [resume, hw, resumeConnect_nil hq]
  · simp [resume, hw, resumeWrite_nil hq]

/-- Settles O21: the bytes are queued, and nothing goes on that waits for something else. -/
theorem unreadReplyStaysInTransport : Obligations.UnreadReplyStaysInTransport := by
  intro i B s henc hwait
  rw [exec_of_encode_resp henc, State.onCtl, Control.offerRead, Control.resume_unanswered (by exact hwait)]

/-- Settles O42: the outcome is queued, and an idle receive agent does not take it; the length decides the fault. -/
theorem unreceivedDatagramStaysInSocket : Obligations.UnreceivedDatagramStaysInSocket := by
  intro i D s henc
  rw [exec_of_encode_dgram henc, offerDatagram]
  refine ⟨fun hlen hidle => ?_, fun hlong => if_neg (Nat.not_le.mpr hlong)⟩
  rw [if_pos hlen, State.onRx, Receive.offer, Receive.resume_idle (by exact hidle)]

/-! ## Reset (R32) -/

/-- Settles O51: the reset values, read off `State.reset`. -/
theorem resetState : Obligations.ResetState :=
  ⟨rfl, rfl, rfl, rfl, rfl, rfl, rfl, rfl, rfl, rfl, rfl, rfl⟩

end Sys2Proof.Machine

/-! ## The agents' operations commute (R53) -/

namespace Sys2Proof.Machine

/-- Settles O55: each operation updates its own agent's record by a function that only the parameters enter, and neither
writes those. -/
theorem agentsCommute : Obligations.AgentsCommute := by
  intro i j s t u hi hj hit hju
  obtain ⟨f, hf⟩ := exec_of_side_control hi
  obtain ⟨g, hg⟩ | ⟨e, he⟩ := exec_of_side_receive hj
  · obtain rfl : s.onCtl (f s.params) = t := Host.Outcome.next.inj ((hf s).symm.trans hit)
    obtain rfl : s.onRx (g s.params) = u := Host.Outcome.next.inj ((hg s).symm.trans hju)
    exact ⟨{ s with ctl := f s.params s.ctl, rx := g s.params s.rx }, hg _, hf _⟩
  · cases (he s).symm.trans hju

end Sys2Proof.Machine

/-! ## What was asked of the transport, and what reached the device, stays (R48)

Every operation of the control agent continues both histories of the transport; which answers the transport holds ready is
no part of them. -/

namespace Sys2Proof.Machine

/-- The histories of `tp'` continue those of `tp`. -/
structure Transport.Extends (tp tp' : Transport) : Prop where
  acts : tp.acts <+: tp'.acts
  delivered : tp.delivered <+: tp'.delivered

theorem Transport.Extends.refl (tp : Transport) : tp.Extends tp := ⟨List.prefix_rfl, List.prefix_rfl⟩

theorem Transport.Extends.trans {tp tp' tp'' : Transport} (h : tp.Extends tp') (h' : tp'.Extends tp'') :
    tp.Extends tp'' := ⟨h.acts.trans h'.acts, h.delivered.trans h'.delivered⟩

namespace Control

theorem act_extends (c : Control) (a : TpAct) : c.tp.Extends (c.act a).tp :=
  ⟨List.prefix_append .., List.prefix_rfl⟩

theorem resumeRead_extends (c : Control) : c.tp.Extends c.resumeRead.tp := by
  rcases hq : c.tp.readAns with _ | ⟨B | _, rest⟩
  · rw [resumeRead_nil hq]
    exact .refl _
  · rw [resumeRead_data hq, finishRead_tp]
    exact { Transport.Extends.refl c.tp with }
  · rw [resumeRead_fail hq]
    exact { Transport.Extends.refl c.tp with }

theorem startRead_extends (c : Control) : c.tp.Extends c.startRead.tp :=
  (act_extends { c with resp := [], wait := .read } .read).trans (resumeRead_extends _)

/-- An answered write delivers the frame, or the prefix of it that the environment chose (U4). -/
theorem resumeWrite_extends (c : Control) : c.tp.Extends c.resumeWrite.tp := by
  rcases hq : c.tp.writeAns with _ | ⟨_ | k, rest⟩
  · rw [resumeWrite_nil hq]
    exact .refl _
  · rw [resumeWrite_ok hq]
    refine .trans ?_ (startRead_extends _)
    exact ⟨List.prefix_rfl, List.prefix_append ..⟩
  · rw [resumeWrite_fail hq]
    exact ⟨List.prefix_rfl, List.prefix_append ..⟩

theorem startRoundtrip_extends (c : Control) (F : List Byte) : c.tp.Extends (c.startRoundtrip F).tp :=
  (act_extends { c with cmd := F, wait := .write } (.write F)).trans (resumeWrite_extends _)

theorem resumeConnect_extends (c : Control) : c.tp.Extends c.resumeConnect.tp := by
  rcases hq : c.tp.connectAns with _ | ⟨_ | _, rest⟩
  · rw [resumeConnect_nil hq]
    exact .refl _
  · rw [resumeConnect_fail hq]
    exact { Transport.Extends.refl c.tp with }
  · rw [resumeConnect_ok hq]
    exact { Transport.Extends.refl c.tp with }

theorem resume_extends (c : Control) : c.tp.Extends c.resume.tp := by
  unfold Control.resume
  split
  · exact .refl _
  · exact c.resumeConnect_extends
  · exact c.resumeWrite_extends
  · exact c.resumeRead_extends

theorem offerRead_extends (c : Control) (a : ReadAns) : c.tp.Extends (c.offerRead a).tp :=
  { resume_extends { c with tp := { c.tp with readAns := c.tp.readAns ++ [a] } } with }

theorem offerWrite_extends (c : Control) (a : WriteAns) : c.tp.Extends (c.offerWrite a).tp :=
  { resume_extends { c with tp := { c.tp with writeAns := c.tp.writeAns ++ [a] } } with }

theorem offerConnect_extends (c : Control) (ok : Bool) : c.tp.Extends (c.offerConnect ok).tp :=
  { resume_extends { c with tp := { c.tp with connectAns := c.tp.connectAns ++ [ok] } } with }

theorem command_extends (c : Control) (cmd : Command) : c.tp.Extends (c.command cmd).tp := by
  obtain ⟨_, e⟩ | ⟨_, _, e⟩ | ⟨_, _, e⟩ := c.command_cases cmd <;> rw [e]
  · exact .refl _
  · exact .refl _
  · exact c.startRoundtrip_extends cmd.frame

theorem connect_extends (c : Control) : c.tp.Extends c.connect.tp := by
  unfold Control.connect
  split
  · exact .refl _
  · exact (act_extends { c with wait := .connect } .connect).trans (resumeConnect_extends _)

theorem disconnect_extends (c : Control) : c.tp.Extends c.disconnect.tp := by
  unfold Control.disconnect
  split
  · exact c.act_extends .close
  · exact .refl _

theorem request_extends {body : Control → Control} (hbody : ∀ d : Control, d.tp.Extends (body d).tp) (c : Control)
    (r : Req) : c.tp.Extends (c.request r body).tp := by
  cases hbusy : c.busy with
  | true => rw [request_busy hbusy]; exact .refl _
  | false => rw [request_idle hbusy]; exact hbody (c.accept r)

theorem roundtripAlone_extends (c : Control) (cmd : Command) : c.tp.Extends (c.roundtripAlone cmd).tp := by
  obtain ⟨_, e⟩ | ⟨_, _, _, e⟩ := c.roundtripAlone_cases cmd <;> rw [e]
  · exact .refl _
  · exact startRoundtrip_extends { c with busy := true } cmd.frame

/-- A frame that the reset input cuts off reaches the device in part (R195). -/
theorem afterReset_extends (c : Control) (k : Nat) : c.tp.Extends (c.afterReset k).tp := by
  unfold Control.afterReset
  split
  · exact ⟨List.prefix_rfl, List.prefix_append ..⟩
  · exact .refl _

theorem Moves.extends {c c' : Control} {head : Option Stim} (hmove : c.Moves head c') : c.tp.Extends c'.tp := by
  cases hmove with
  | keep => exact .refl _
  | readAnswer => exact c.offerRead_extends _
  | writeAnswer => exact c.offerWrite_extends _
  | connectAnswer => exact c.offerConnect_extends _
  | command _ r cmd => exact request_extends (command_extends · cmd) c r
  | connect _ _ r => exact request_extends connect_extends c r
  | disconnect _ _ r => exact request_extends disconnect_extends c r
  | refuse _ r => exact request_extends (body := (·.raise .refused 0 0)) (fun d => .refl d.tp) c r
  | roundtrip _ cmd => exact c.roundtripAlone_extends cmd
  | reset k => exact c.afterReset_extends k

end Control

end Sys2Proof.Machine

/-! ## What was done on the sink and asked of the socket stays (R44, R50, R147) -/

namespace Sys2Proof.Machine

namespace Receive

/-- The histories of `r'` continue those of `r`, that of the sink by at most one action: the release, or the payload of the
accepted datagram that `r'` holds. -/
structure Extends (r r' : Receive) : Prop where
  sink : r'.sink = r.sink ∨ r'.sink = r.sink ++ [.release] ∨
    (dgramCheck r'.dgram = true ∧ r'.sink = r.sink ++ [.append (extract r'.dgram)])
  sockActs : r.sockActs <+: r'.sockActs

theorem Extends.of_eq {r r' : Receive} (hsink : r'.sink = r.sink) (hsock : r'.sockActs = r.sockActs) : r.Extends r' :=
  ⟨.inl hsink, hsock ▸ List.prefix_rfl⟩

theorem Extends.refl (r : Receive) : r.Extends r := .of_eq rfl rfl

theorem endSession_extends (r : Receive) (reason : Code) : r.Extends (r.endSession reason) :=
  ⟨.inr (.inl rfl), List.prefix_append ..⟩

theorem takeDatagram_extends (r : Receive) (D : List Byte) : r.Extends (r.takeDatagram D) := by
  rw [takeDatagram_eq]
  split
  · next haccept => exact ⟨.inr (.inr ⟨haccept, rfl⟩), List.prefix_rfl⟩
  · exact .of_eq rfl rfl

theorem handle_extends (r : Receive) (abandons : Bool) (o : RxOutcome) : r.Extends (r.handle abandons o) := by
  obtain ⟨D, _, _, _, e⟩ | ⟨D, _, _, e⟩ | ⟨_, e⟩ | ⟨_, e⟩ := r.handle_cases abandons o <;> rw [e]
  · exact .of_eq rfl rfl
  · exact { takeDatagram_extends { r with wait := false, rose := false } D with }
  · exact r.endSession_extends .timeoutEnd
  · exact r.endSession_extends .socketError

theorem resume_extends (r : Receive) (abandons : Bool) : r.Extends (r.resume abandons) := by
  unfold Receive.resume
  split
  · split
    · exact .refl r
    · next o rest _ => exact { handle_extends { r with outcomes := rest } abandons o with }
  · exact .refl r

theorem start_extends (r : Receive) : r.Extends r.start := by
  unfold Receive.start
  split <;> exact .of_eq rfl rfl

theorem iterate_extends (r : Receive) (abandons : Bool) : r.Extends (r.iterate abandons) := by
  obtain ⟨_, e⟩ | ⟨_, _, _, e⟩ | ⟨_, _, _, e⟩ := r.iterate_cases abandons <;> rw [e]
  · exact .refl r
  · exact r.endSession_extends .cancelled
  · obtain ⟨hsink, hsock⟩ := resume_extends
      { r with wait := true, rose := false, sockActs := r.sockActs ++ [SockAct.receive] } abandons
    exact ⟨hsink, (List.prefix_append ..).trans hsock⟩

theorem Moves.extends {r r' : Receive} {abandons : Bool} {head : Option Stim} (hmove : r.Moves abandons head r') :
    r.Extends r' := by
  cases hmove with
  | keep => exact .refl r
  | outcome _ o => exact { resume_extends { r with outcomes := r.outcomes ++ [o] } abandons with }
  | start => exact r.start_extends
  | iterate => exact r.iterate_extends abandons
  | setCancel => exact .of_eq rfl rfl
  | reset => exact .of_eq rfl rfl

end Receive

/-- Settles O59: each agent's move extends that agent's histories. -/
theorem outputsAreAppendOnly : Obligations.OutputsAreAppendOnly := by
  intro s t hstep
  obtain ⟨hacts, hdelivered⟩ := (step_ctl_moves hstep).extends
  obtain ⟨hsink, hsock⟩ := (step_rx_moves hstep).extends
  refine ⟨?_, hacts, hdelivered, hsock⟩
  obtain hsame | hrelease | ⟨_, happend⟩ := hsink
  · exact .inl hsame
  · exact .inr ⟨_, hrelease⟩
  · exact .inr ⟨_, happend⟩

theorem State.sinkBytes_of_sink_append {s t : State} {a : SinkAct} (h : t.rx.sink = s.rx.sink ++ [a]) :
    t.sinkBytes = s.sinkBytes ++ SinkAct.bytes a := by
  simp [State.sinkBytes, h]

/-- Settles O60: a release adds no byte, and an append adds the payload of the datagram in `DGRAM`. -/
theorem sinkHoldsOnlyAcceptedPayloads : Obligations.SinkHoldsOnlyAcceptedPayloads := by
  intro s t hstep
  obtain hsame | hrelease | ⟨haccept, happend⟩ := (step_rx_moves hstep).extends.sink
  · exact .inl (congrArg (List.flatMap SinkAct.bytes) hsame)
  · exact .inl ((State.sinkBytes_of_sink_append hrelease).trans (List.append_nil _))
  · exact .inr ⟨_, haccept, rfl, State.sinkBytes_of_sink_append happend⟩

end Sys2Proof.Machine

/-! ## Byte 1 of an unsolicited control item (R70)

The two halves of the byte, and the low-bits test of the decoder against the mask of PARSE (R111). -/

namespace Sys2Proof

@[simp] theorem highBits_uciByte1 (hi : BitVec 5) : highBits (uciByte1 hi) = hi := BitVec.extractLsb'_append_eq_left

@[simp] theorem lowBits_uciByte1 (hi : BitVec 5) : (uciByte1 hi).extractLsb' 0 3 = 1#3 :=
  BitVec.extractLsb'_append_eq_right

theorem uciByte1_highBits {b1 : Byte} (hlow : b1.extractLsb' 0 3 = 1#3) : uciByte1 (highBits b1) = b1 := by
  rw [uciByte1, highBits, ← hlow, BitVec.extractLsb'_append_extractLsb'_eq_extractLsb' (by rfl)]
  exact BitVec.extractLsb'_eq_self

theorem lowBits_eq_iff (b1 : Byte) : b1.extractLsb' 0 3 = 1#3 ↔ b1 &&& 0x07 = 0x01 := by
  have hmask : b1.toNat &&& 7 = b1.toNat % 8 := Nat.and_two_pow_sub_one_eq_mod b1.toNat 3
  simp [← BitVec.toNat_inj, hmask]

/-- Byte 1 of an ACK (R69) is not that of an unsolicited item: its low bits are 000. -/
theorem uciByte1_ne_ackByte1 (hi : BitVec 5) : uciByte1 hi ≠ 0x60 := by
  intro hbyte
  have hlow : (0x60 : Byte).extractLsb' 0 3 = 1#3 := hbyte ▸ lowBits_uciByte1 hi
  exact absurd hlow (by decide)

/-! ### The little-endian code -/

theorem le16_toNat (lo hi : Byte) : (le16 lo hi).toNat = leUint [lo, hi] := by
  have hlt : leUint [lo, hi] < 256 ^ 2 := leUint_lt [lo, hi]
  rw [le16, BitVec.toNat_ofNat]
  exact Nat.mod_eq_of_lt hlt

theorem exists_le16 (code : BitVec 16) : ∃ lo hi, le16 lo hi = code := by
  refine ⟨BitVec.ofNat 8 code.toNat, BitVec.ofNat 8 (code.toNat / 256), BitVec.eq_of_toNat_eq ?_⟩
  rw [le16_toNat]
  exact (leUint_leBytes code.toNat 2).trans (Nat.mod_eq_of_lt code.isLt)

theorem uciBytes_le16 (b0 : Byte) (hi : BitVec 5) (c0 c1 : Byte) (params : List Byte) :
    uciBytes b0 hi (le16 c0 c1) params = b0 :: uciByte1 hi :: c0 :: c1 :: params := by
  have hcode : leBytes (leUint [c0, c1]) 2 = [c0, c1] := leBytes_leUint [c0, c1]
  rw [uciBytes, le16_toNat, hcode]
  rfl

end Sys2Proof

/-! ## Response buffers (R68 to R71, R111 to R117)

PARSE said once for each shape of buffer that the decoder distinguishes; from this, one relation that ties a buffer to the row
read from it and to the record of PARSE. -/

namespace Sys2Proof

theorem parse_pair (b0 b1 : Byte) :
    parse [b0, b1] = if b0 = 0x02 ∧ b1 = 0x00 then Parse.nakRec else Parse.unknownRec := by
  simp [parse]

theorem parse_triple (b0 b1 b2 : Byte) :
    parse [b0, b1, b2] =
      if b0 = 0x03 ∧ b1 = 0x60 then Parse.ackRec b2
      else if b1.extractLsb' 0 3 = 1#3 then Parse.uciMalformedRec
      else Parse.unknownRec := by
  simp [parse, readLe, leUint, lowBits_eq_iff, uciMin]

theorem parse_long (b0 b1 c0 c1 : Byte) (params : List Byte) :
    parse (b0 :: b1 :: c0 :: c1 :: params) =
      if b1.extractLsb' 0 3 = 1#3 then Parse.uciRec (le16 c0 c1) params.length else Parse.unknownRec := by
  simp [parse, readLe, leUint, le16, lowBits_eq_iff, uciMin]

/-- `RespRow B i p`: the buffer `B` is the bytes of the row `i`, and `p` is the record that PARSE gives that row. -/
inductive RespRow : List Byte → Instr → Parse → Prop where
  | nak : RespRow nakBytes .nak Parse.nakRec
  | ack (item : Byte) : RespRow (ackBytes item) (.ack item) (Parse.ackRec item)
  | uci (b0 : Byte) (hi : BitVec 5) (code : BitVec 16) (params : List Byte) :
      RespRow (uciBytes b0 hi code params) (.uci b0 hi code params) (Parse.uciRec code params.length)
  | uciMalformed (b0 : Byte) (hi : BitVec 5) (b2 : Byte) :
      RespRow (uciShortBytes b0 hi b2) (.uciMalformed b0 hi b2) Parse.uciMalformedRec
  | unknown (raw : List Byte) : RespRow raw (.unknown raw) Parse.unknownRec

theorem RespRow.uci_of_lowBits (b0 : Byte) {b1 : Byte} (hlow : b1.extractLsb' 0 3 = 1#3) (c0 c1 : Byte)
    (params : List Byte) :
    RespRow (b0 :: b1 :: c0 :: c1 :: params) (.uci b0 (highBits b1) (le16 c0 c1) params)
      (Parse.uciRec (le16 c0 c1) params.length) := by
  have hrow := RespRow.uci b0 (highBits b1) (le16 c0 c1) params
  rwa [uciBytes_le16, uciByte1_highBits hlow] at hrow

theorem RespRow.uciMalformed_of_lowBits (b0 : Byte) {b1 : Byte} (hlow : b1.extractLsb' 0 3 = 1#3) (b2 : Byte) :
    RespRow [b0, b1, b2] (.uciMalformed b0 (highBits b1) b2) Parse.uciMalformedRec := by
  have hrow := RespRow.uciMalformed b0 (highBits b1) b2
  rwa [uciShortBytes, uciByte1_highBits hlow] at hrow

/-- The decoder and PARSE read every buffer as one and the same row. -/
theorem respRow_decodeResp (B : List Byte) : RespRow B (decodeResp B) (parse B) := by
  match B with
  | [] => exact .unknown []
  | [b0] => exact .unknown [b0]
  | [b0, b1] =>
    rw [decodeResp, parse_pair]
    split
    · next hnak => obtain ⟨rfl, rfl⟩ := hnak; exact .nak
    · exact .unknown _
  | [b0, b1, b2] =>
    rw [decodeResp, parse_triple]
    split
    · next hack => obtain ⟨rfl, rfl⟩ := hack; exact .ack b2
    · split
      · next hlow => exact .uciMalformed_of_lowBits b0 hlow b2
      · exact .unknown _
  | b0 :: b1 :: c0 :: c1 :: params =>
    rw [decodeResp, parse_long]
    split
    · next hlow => exact .uci_of_lowBits b0 hlow c0 c1 params
    · exact .unknown _

theorem RespRow.encode_eq {B : List Byte} {i : Instr} {p : Parse} (hrow : RespRow B i p) : encode i = .resp B := by
  cases hrow <;> rfl

theorem decodeResp_uciBytes (b0 : Byte) (hi : BitVec 5) (code : BitVec 16) (params : List Byte) :
    decodeResp (uciBytes b0 hi code params) = .uci b0 hi code params := by
  obtain ⟨c0, c1, rfl⟩ := exists_le16 code
  rw [uciBytes_le16, decodeResp, if_pos (lowBits_uciByte1 hi), highBits_uciByte1]

theorem decodeResp_uciShortBytes (b0 : Byte) (hi : BitVec 5) (b2 : Byte) :
    decodeResp (uciShortBytes b0 hi b2) = .uciMalformed b0 hi b2 := by
  rw [uciShortBytes, decodeResp, if_neg fun hack => uciByte1_ne_ackByte1 hi hack.2, if_pos (lowBits_uciByte1 hi),
    highBits_uciByte1]

/-- R117: the row that is read is the row of PARSE's class and flag. -/
theorem decodeResp_agrees_parse (B : List Byte) :
    (decodeResp B = .nak ↔ (parse B).cls = .nak) ∧
    ((∃ item, decodeResp B = .ack item) ↔ (parse B).cls = .ack) ∧
    ((∃ b0 hi code ps, decodeResp B = .uci b0 hi code ps) ↔ (parse B).cls = .uci ∧ (parse B).malformed = false) ∧
    ((∃ b0 hi b2, decodeResp B = .uciMalformed b0 hi b2) ↔ (parse B).cls = .uci ∧ (parse B).malformed = true) ∧
    (decodeResp B = .unknown B ↔ (parse B).cls = .unknown) := by
  have hrow := respRow_decodeResp B
  generalize decodeResp B = i, parse B = p at hrow
  cases hrow <;> simp [Parse.nakRec, Parse.ackRec, Parse.uciRec, Parse.uciMalformedRec, Parse.unknownRec]

/-- An UNKNOWN is read back from its bytes because PARSE finds no other row in them. -/
theorem decodeResp_eq_unknown {raw : List Byte} (hcls : (parse raw).cls = .unknown) : decodeResp raw = .unknown raw := by
  obtain ⟨_, _, _, _, hunknown⟩ := decodeResp_agrees_parse raw
  exact hunknown.mpr hcls

theorem decodeResp_wellFormed (B : List Byte) : wellFormed (decodeResp B) = true := by
  have hrow := respRow_decodeResp B
  generalize decodeResp B = i, hp : parse B = p at hrow
  cases hrow with
  | unknown => exact beq_iff_eq.mpr (congrArg Parse.cls hp)
  | _ => rfl

end Sys2Proof

/-! ## Datagrams (R72, R145, R148)

In the same way one relation for the five rows of a datagram, with the verdict of DGRAM_CHECK. -/

namespace Sys2Proof

/-- DGRAM_CHECK of a datagram that has its four framing bytes. -/
theorem dgramCheck_framed (b0 b1 r0 r1 : Byte) (payload : List Byte) :
    dgramCheck (b0 :: b1 :: r0 :: r1 :: payload) = true ↔
      (payload.length = 508 ∨ payload.length = 1020) ∧ b0 = 0x04 ∧ (b1 = 0x84 ∨ b1 = 0x82) := by
  simp [dgramCheck, dgramSmall, dgramLarge]

theorem dgramCheck_short {D : List Byte} (hlen : D.length < 4) : dgramCheck D = false :=
  if_pos ⟨by simp only [dgramSmall]; omega, by simp only [dgramLarge]; omega⟩

/-- `DgramRow D i accepted`: the datagram `D` is the bytes of the row `i`, one that DGRAM_CHECK accepts or rejects. -/
inductive DgramRow : List Byte → Instr → Bool → Prop where
  | iq84Large (r0 r1 : Byte) {payload : List Byte} (hlen : payload.length = 1020) :
      DgramRow (iqBytes 0x84 r0 r1 payload) (.iq84Large r0 r1 payload) true
  | iq84Small (r0 r1 : Byte) {payload : List Byte} (hlen : payload.length = 508) :
      DgramRow (iqBytes 0x84 r0 r1 payload) (.iq84Small r0 r1 payload) true
  | iq82Large (r0 r1 : Byte) {payload : List Byte} (hlen : payload.length = 1020) :
      DgramRow (iqBytes 0x82 r0 r1 payload) (.iq82Large r0 r1 payload) true
  | iq82Small (r0 r1 : Byte) {payload : List Byte} (hlen : payload.length = 508) :
      DgramRow (iqBytes 0x82 r0 r1 payload) (.iq82Small r0 r1 payload) true
  | malformed (D : List Byte) : DgramRow D (.dgramMalformed D) false

/-- The decoder and DGRAM_CHECK read every datagram that can be counted as one and the same row. -/
theorem dgramRow_of_length {D : List Byte} (hcap : D.length ≤ dgramCap) :
    ∃ i, decodeDgram D = .ok i ∧ DgramRow D i (dgramCheck D) := by
  unfold decodeDgram
  rw [if_neg (Nat.not_lt.mpr hcap)]
  split
  · next b0 b1 r0 r1 payload =>
    have hcheck := dgramCheck_framed b0 b1 r0 r1 payload
    split_ifs with h84l h84s h82l h82s
    · obtain ⟨rfl, rfl, hlen⟩ := h84l
      exact ⟨_, rfl, hcheck.mpr ⟨.inr hlen, rfl, .inl rfl⟩ ▸ .iq84Large r0 r1 hlen⟩
    · obtain ⟨rfl, rfl, hlen⟩ := h84s
      exact ⟨_, rfl, hcheck.mpr ⟨.inl hlen, rfl, .inl rfl⟩ ▸ .iq84Small r0 r1 hlen⟩
    · obtain ⟨rfl, rfl, hlen⟩ := h82l
      exact ⟨_, rfl, hcheck.mpr ⟨.inr hlen, rfl, .inr rfl⟩ ▸ .iq82Large r0 r1 hlen⟩
    · obtain ⟨rfl, rfl, hlen⟩ := h82s
      exact ⟨_, rfl, hcheck.mpr ⟨.inl hlen, rfl, .inr rfl⟩ ▸ .iq82Small r0 r1 hlen⟩
    · have hreject : dgramCheck (b0 :: b1 :: r0 :: r1 :: payload) = false := by
        rw [Bool.eq_false_iff, ne_eq, hcheck]
        rintro ⟨hlen | hlen, h0, h84 | h82⟩
        · exact h84s ⟨h0, h84, hlen⟩
        · exact h82s ⟨h0, h82, hlen⟩
        · exact h84l ⟨h0, h84, hlen⟩
        · exact h82l ⟨h0, h82, hlen⟩
      exact ⟨_, rfl, hreject ▸ .malformed _⟩
  · next hshort =>
    have hlen : D.length < 4 := by
      match D with
      | [] | [_] | [_, _] | [_, _, _] => simp
      | b0 :: b1 :: r0 :: r1 :: payload => exact absurd rfl (hshort b0 b1 r0 r1 payload)
    exact ⟨_, rfl, dgramCheck_short hlen ▸ .malformed D⟩

theorem decodeDgram_of_long {D : List Byte} (hlong : dgramCap < D.length) :
    decodeDgram D = .error .datagramTooLong := if_pos hlong

theorem dgramRow_of_decodeDgram {D : List Byte} {i : Instr} (hdec : decodeDgram D = .ok i) :
    D.length ≤ dgramCap ∧ DgramRow D i (dgramCheck D) := by
  by_cases hcap : D.length ≤ dgramCap
  · obtain ⟨j, hj, hrow⟩ := dgramRow_of_length hcap
    obtain rfl : j = i := Except.ok.inj (hj.symm.trans hdec)
    exact ⟨hcap, hrow⟩
  · cases (decodeDgram_of_long (Nat.not_le.mp hcap)).symm.trans hdec

theorem DgramRow.encode_eq {D : List Byte} {i : Instr} {accepted : Bool} (hrow : DgramRow D i accepted) :
    encode i = .dgram 0 D := by
  cases hrow <;> rfl

theorem decodeDgram_of_accepted {D : List Byte} {i : Instr} (hrow : DgramRow D i true) : decodeDgram D = .ok i := by
  cases hrow <;> simp [decodeDgram, dgramCap, iqBytes, *]

theorem dgramCheck_eq_true_iff {D : List Byte} (hcap : D.length ≤ dgramCap) :
    dgramCheck D = true ↔ ∃ r0 r1 payload,
      decodeDgram D = .ok (.iq84Large r0 r1 payload) ∨ decodeDgram D = .ok (.iq84Small r0 r1 payload) ∨
      decodeDgram D = .ok (.iq82Large r0 r1 payload) ∨ decodeDgram D = .ok (.iq82Small r0 r1 payload) := by
  obtain ⟨i, hdec, hrow⟩ := dgramRow_of_length hcap
  rw [hdec]
  generalize dgramCheck D = accepted at hrow
  cases hrow <;> simp

theorem dgramCheck_eq_false_iff {D : List Byte} (hcap : D.length ≤ dgramCap) :
    dgramCheck D = false ↔ decodeDgram D = .ok (.dgramMalformed D) := by
  obtain ⟨i, hdec, hrow⟩ := dgramRow_of_length hcap
  rw [hdec]
  generalize dgramCheck D = accepted at hrow
  cases hrow <;> simp

theorem decodeDgram_wellFormed {D : List Byte} {i : Instr} (hdec : decodeDgram D = .ok i) : wellFormed i = true := by
  obtain ⟨hcap, hrow⟩ := dgramRow_of_decodeDgram hdec
  generalize hcheck : dgramCheck D = accepted at hrow
  cases hrow with
  | iq84Large _ _ hlen => exact beq_iff_eq.mpr hlen
  | iq84Small _ _ hlen => exact beq_iff_eq.mpr hlen
  | iq82Large _ _ hlen => exact beq_iff_eq.mpr hlen
  | iq82Small _ _ hlen => exact beq_iff_eq.mpr hlen
  | malformed => simpa [wellFormed, hcheck] using hcap

end Sys2Proof

/-! ## Command frames and host requests (R63 to R66, R75, R76) -/

namespace Sys2Proof

/-- `CmdRow F i`: the bytes `F` are the frame of the row `i`. -/
inductive CmdRow : List Byte → Instr → Prop where
  | startIq : CmdRow frameStartIq .encStartIq
  | stopIq : CmdRow frameStopIq .encStopIq
  | setMode (mode : Byte) : CmdRow (frameSetMode mode) (.encSetMode mode)
  | setFreq (chan h0 h1 h2 h3 h4 : Byte) :
      CmdRow [0x0A, 0x00, 0x20, 0x00, chan, h0, h1, h2, h3, h4]
        (.encSetFreq chan { units := leUint [h0, h1, h2, h3, h4], dp := 6 })

theorem cmdRow_of_decodeCmd {F : List Byte} {i : Instr} (hdec : decodeCmd F = .ok i) : CmdRow F i := by
  unfold decodeCmd at hdec
  split at hdec <;> cases hdec
  · exact .startIq
  · exact .stopIq
  · exact .setMode _
  · exact .setFreq ..

/-- A whole number of hertz below `2^40` is coded as its frame. -/
theorem encode_encSetFreq_of_lt (chan : Byte) {hz : Nat} (hlt : hz < 2 ^ 40) :
    encode (.encSetFreq chan { units := hz, dp := 6 }) = .cmd ([0x0A, 0x00, 0x20, 0x00, chan] ++ leBytes hz 5) :=
  if_pos ⟨rfl, hlt⟩

/-- Five bytes are a number below `2^40` and are its bytes, so no bit of the frequency field is dropped (R66). -/
theorem CmdRow.encode_eq {F : List Byte} {i : Instr} (hrow : CmdRow F i) : encode i = .cmd F := by
  cases hrow with
  | startIq => rfl
  | stopIq => rfl
  | setMode mode => rfl
  | setFreq chan h0 h1 h2 h3 h4 =>
    have hlt : leUint [h0, h1, h2, h3, h4] < 256 ^ 5 := leUint_lt [h0, h1, h2, h3, h4]
    have hbytes : leBytes (leUint [h0, h1, h2, h3, h4]) 5 = [h0, h1, h2, h3, h4] := leBytes_leUint [h0, h1, h2, h3, h4]
    rw [encode_encSetFreq_of_lt chan (by omega), hbytes]
    rfl

theorem CmdRow.wellFormed {F : List Byte} {i : Instr} (hrow : CmdRow F i) : wellFormed i = true := by
  cases hrow <;> rfl

theorem decodeCmd_setFreq_leBytes (chan : Byte) (hz : Nat) :
    decodeCmd ([0x0A, 0x00, 0x20, 0x00, chan] ++ leBytes hz 5) =
      .ok (.encSetFreq chan { units := hz % 2 ^ 40, dp := 6 }) := by
  have hfield : leUint (leBytes hz 5) = hz % 256 ^ 5 := leUint_leBytes hz 5
  rw [show 2 ^ 40 = 256 ^ 5 by rfl, ← hfield]
  rfl

/-- Set-frequency is read back from its frame where it has one, and from its operands otherwise (log 14). -/
theorem decode_encode_encSetFreq (chan : Byte) (f : Mhz) :
    decode (encode (.encSetFreq chan f)) = .ok (.encSetFreq chan f) := by
  obtain ⟨hz, dp⟩ := f
  by_cases hcoded : dp = 6 ∧ hz < 2 ^ 40
  · obtain ⟨rfl, hlt⟩ := hcoded
    rw [encode_encSetFreq_of_lt chan hlt, decode, decodeCmd_setFreq_leBytes, Nat.mod_eq_of_lt hlt]
  · rw [encode, if_neg hcoded, decode]

theorem encode_decodeReq (op : BitVec 3) (p : Ports) : encode (decodeReq op p) = .req op p := by
  obtain ⟨⟨code, hlt⟩⟩ := op
  interval_cases code <;> rfl

theorem decodeReq_wellFormed (op : BitVec 3) (p : Ports) : wellFormed (decodeReq op p) = true := by
  unfold decodeReq
  split <;> rfl

end Sys2Proof

/-! ## The decoder and the encoder together -/

namespace Sys2Proof

/-- Settles O1: the coded formats by the lemmas of their rows; every other operation is its own operands, of which only those
with a length to check (R43, R146) take a step. -/
theorem decodeEncodeEveryInstruction : Obligations.DecodeEncodeEveryInstruction := by
  intro i hwf
  cases i with
  | encSetFreq chan f => exact decode_encode_encSetFreq chan f
  | uci b0 hi code params => exact congrArg Except.ok (decodeResp_uciBytes b0 hi code params)
  | uciMalformed b0 hi b2 => exact congrArg Except.ok (decodeResp_uciShortBytes b0 hi b2)
  | unknown raw => exact congrArg Except.ok (decodeResp_eq_unknown (beq_iff_eq.mp hwf))
  | iq84Large r0 r1 payload => exact decodeDgram_of_accepted (.iq84Large r0 r1 (beq_iff_eq.mp hwf))
  | iq84Small r0 r1 payload => exact decodeDgram_of_accepted (.iq84Small r0 r1 (beq_iff_eq.mp hwf))
  | iq82Large r0 r1 payload => exact decodeDgram_of_accepted (.iq82Large r0 r1 (beq_iff_eq.mp hwf))
  | iq82Small r0 r1 payload => exact decodeDgram_of_accepted (.iq82Small r0 r1 (beq_iff_eq.mp hwf))
  | dgramMalformed D =>
    obtain ⟨hreject, hcap⟩ : dgramCheck D = false ∧ D.length ≤ dgramCap := by simpa [wellFormed] using hwf
    exact (dgramCheck_eq_false_iff hcap).mp hreject
  | dgramCheck D => exact if_pos (of_decide_eq_true hwf)
  | extract D =>
    obtain ⟨hhdr, hcap⟩ : dgramHdr ≤ D.length ∧ D.length ≤ dgramCap := by simpa [wellFormed] using hwf
    rw [encode, decode, if_neg (Nat.not_lt.mpr hcap), if_pos hhdr]
  | _ => rfl

/-- Settles O2: what the coded formats yield is a row of the format; EXTRACT and DGRAM_CHECK are yielded only after the tests
of their lengths (R43, R146). -/
theorem decodedInstructionWellFormed : Obligations.DecodedInstructionWellFormed := by
  intro x i hdec
  cases x with
  | cmd F => exact (cmdRow_of_decodeCmd hdec).wellFormed
  | resp B => cases hdec; exact decodeResp_wellFormed B
  | dgram sender D => exact decodeDgram_wellFormed hdec
  | req op p => cases hdec; exact decodeReq_wellFormed op p
  | dgramCheck D =>
    by_cases hcap : D.length ≤ dgramCap
    · rw [decode, if_pos hcap] at hdec
      cases hdec
      exact decide_eq_true hcap
    · rw [decode, if_neg hcap] at hdec
      cases hdec
  | extract D =>
    rw [decode] at hdec
    split_ifs at hdec with hlong hhdr
    cases hdec
    simpa [wellFormed] using And.intro hhdr (Nat.not_lt.mp hlong)
  | _ => cases hdec; rfl

/-- Settles O3: each format by its rows. -/
theorem encodeDecodeWireFormats : Obligations.EncodeDecodeWireFormats :=
  ⟨fun B => (respRow_decodeResp B).encode_eq,
    fun _ _ hdec => (dgramRow_of_decodeDgram hdec).2.encode_eq,
    fun _ _ hdec => (cmdRow_of_decodeCmd hdec).encode_eq,
    encode_decodeReq⟩

/-- Settles O5: decoder and classifier read the same row. -/
theorem decodersAgreeWithClassifiers : Obligations.DecodersAgreeWithClassifiers :=
  ⟨decodeResp_agrees_parse, fun _ hcap => ⟨dgramCheck_eq_true_iff hcap, dgramCheck_eq_false_iff hcap⟩⟩

/-- Settles O4: the decoder evaluated on each of the seven words. -/
theorem writtenOutWordsDecode : Obligations.WrittenOutWordsDecode :=
  ⟨rfl, rfl, rfl, rfl, rfl, rfl, rfl⟩

end Sys2Proof

/-! ## The reserved request codes (R76, R178) -/

namespace Sys2Proof.Machine

/-- Both reserved codes are the request whose body raises Refused. -/
theorem exec_reserved {i : Instr} {p : Ports} (hi : i = .reqReserved6 p ∨ i = .reqReserved7 p) (s : State) :
    ∃ r, exec i s = .next (s.onCtl (·.request r (·.raise .refused 0 0))) := by
  obtain rfl | rfl := hi <;> exact ⟨_, rfl⟩

/-- An accepted request that is raised at once completes with the error record and no report. -/
theorem Control.accept_raise_completed (c : Control) (r : Req) (st : Code) (vdet : BitVec 3) (xdet : BitVec 1) :
    c.Completed ((c.accept r).raise st vdet xdet) (errorRes st vdet xdet) :=
  ⟨rfl, rfl, rfl, rfl, rfl, rfl⟩

/-- Settles O32: an idle agent accepts the request, and raising Refused touches neither buffers nor transport. -/
theorem reservedCodesRefused : Obligations.ReservedCodesRefused := by
  intro i p s hi hidle
  obtain ⟨r, hexec⟩ := exec_reserved hi s
  rw [State.onCtl, Control.request_idle hidle] at hexec
  exact ⟨_, hexec, rfl, s.ctl.accept_raise_completed r .refused 0 0, rfl, rfl, rfl, rfl⟩

end Sys2Proof.Machine

/-! ## The frequency field (R90 to R93) -/

namespace Sys2Proof

/-- MHZ2HZ is the floor of the exact rational product: both are one quotient of natural numbers. -/
theorem mhz2hz_eq_floor (f : Mhz) : mhz2hz f = ⌊f.value * 1000000⌋₊ := by
  have hprod : f.value * 1000000 = ((f.units * hzPerMhz : ℕ) : ℚ) / ((10 ^ f.dp : ℕ) : ℚ) := by
    push_cast
    exact div_mul_eq_mul_div ..
  rw [hprod, Nat.floor_div_eq_div, mhz2hz]

/-- With at least six decimal places the factor `10^6` cancels. -/
theorem mhz2hz_of_six_le_dp {f : Mhz} (hdp : 6 ≤ f.dp) : mhz2hz f = f.units / 10 ^ (f.dp - 6) := by
  rw [mhz2hz, ← Nat.sub_add_cancel hdp, pow_add, Nat.add_sub_cancel]
  exact Nat.mul_div_mul_right f.units (10 ^ (f.dp - 6)) (by decide)

/-- The bits at or above `8k` leave no trace in `k` bytes. -/
theorem leBytes_mod (v k : Nat) : leBytes (v % 256 ^ k) k = leBytes v k := by
  simpa only [leUint_leBytes, leBytes_length] using leBytes_leUint (leBytes v k)

theorem hz2le40_eq_leBytes (hz : Nat) : hz2le40 hz = leBytes hz 5 := leBytes_mod hz 5

@[simp] theorem hz2le40_length (hz : Nat) : (hz2le40 hz).length = 5 := leBytes_length ..

theorem hz2le40_mod (hz : Nat) : hz2le40 (hz % 2 ^ 40) = hz2le40 hz := by
  rw [hz2le40, Nat.mod_mod, hz2le40]

/-- Byte `i` in the words of R91: a shift by `8i` is a division by `256^i`, and a byte keeps the value modulo 256. -/
theorem hz2le40_getElem? (hz : Nat) {i : Nat} (hi : i < 5) :
    (hz2le40 hz)[i]? = some (BitVec.ofNat 8 ((hz >>> (8 * i)) % 256)) := by
  have hshift : hz >>> (8 * i) = hz / 256 ^ i := by rw [Nat.shiftRight_eq_div_pow, pow_mul]; rfl
  have hbyte : BitVec.ofNat 8 (hz / 256 ^ i % 256) = BitVec.ofNat 8 (hz / 256 ^ i) :=
    BitVec.eq_of_toNat_eq (Nat.mod_mod ..)
  rw [hz2le40_eq_leBytes, leBytes_getElem? hz 5 i hi, hshift, hbyte]

/-- The decoded field is the frequency modulo `2^40` (R93). -/
theorem leUint_hz2le40 (hz : Nat) : leUint (hz2le40 hz) = hz % 2 ^ 40 := by
  rw [hz2le40_eq_leBytes]
  exact leUint_leBytes hz 5

/-- Every five bytes are the field of their own value (R93). -/
theorem hz2le40_leUint {FQ : List Byte} (hlen : FQ.length = 5) : hz2le40 (leUint FQ) = FQ := by
  rw [hz2le40_eq_leBytes, ← hlen, leBytes_leUint]

/-- Settles O8: the byte order laws at five bytes. -/
theorem frequencyFieldRoundTrip : Obligations.FrequencyFieldRoundTrip :=
  ⟨fun hz hlt => (leUint_hz2le40 hz).trans (Nat.mod_eq_of_lt hlt), leUint_hz2le40, fun _ => hz2le40_leUint⟩

end Sys2Proof

namespace Sys2Proof.Machine

theorem exec_mhz2hz (f : Mhz) (s : State) : exec (.mhz2hz f) s = .next { s with fn := .hz (mhz2hz f) } := rfl

theorem exec_hz2le40 (hz : Nat) (s : State) : exec (.hz2le40 hz) s = .next { s with fn := .field (hz2le40 hz) } := rfl

theorem exec_encSetFreq (chan : Byte) (f : Mhz) (s : State) :
    exec (.encSetFreq chan f) s =
      .next { s with fn := .frame ([0x0A, 0x00, 0x20, 0x00, chan] ++ hz2le40 (mhz2hz f)) } := rfl

/-- Settles O6: from six decimal places on, the result is a quotient of `units`, so at most `units`. -/
theorem mhz2HzIsExactFloor : Obligations.Mhz2HzIsExactFloor := by
  intro f s
  refine ⟨mhz2hz f, exec_mhz2hz f s, mhz2hz_eq_floor f, fun hdp => ?_⟩
  have hquot : mhz2hz f = f.units / 10 ^ (f.dp - 6) := mhz2hz_of_six_le_dp hdp
  exact ⟨hquot, hquot.trans_le (Nat.div_le_self ..)⟩

/-- Settles O7: the length, the bytes and the modulo law of the field. -/
theorem hertzFieldIsFiveLittleEndianBytes : Obligations.HertzFieldIsFiveLittleEndianBytes :=
  fun hz s => ⟨hz2le40 hz, exec_hz2le40 hz s, hz2le40_length hz, fun _ => hz2le40_getElem? hz, (hz2le40_mod hz).symm⟩

/-- Settles O9: the field of MHZ2HZ's result, read back by R93. -/
theorem setFreqFrameEncoded : Obligations.SetFreqFrameEncoded := by
  intro chan f s
  have hfield : leUint (hz2le40 (mhz2hz f)) = ⌊f.value * 1000000⌋₊ % 2 ^ 40 := by
    rw [leUint_hz2le40, mhz2hz_eq_floor]
  exact ⟨hz2le40 (mhz2hz f), exec_encSetFreq chan f s, hz2le40_length _, hfield⟩

end Sys2Proof.Machine

/-! ## The command codec (R80, R100 to R108)

The two header fields of a frame, and the bits of the mask `vdet`. -/

namespace Sys2Proof

/-! ### Headers and operands of the frames -/

theorem readLe_declaredLength (l0 l1 o0 o1 : Byte) (body : List Byte) :
    readLe (l0 :: l1 :: o0 :: o1 :: body) 0 2 = some (leUint [l0, l1]) := if_pos (Nat.le_add_left ..)

theorem readLe_opcode (l0 l1 o0 o1 : Byte) (body : List Byte) :
    readLe (l0 :: l1 :: o0 :: o1 :: body) 2 2 = some (leUint [o0, o1]) := if_pos (Nat.le_add_left ..)

theorem frame_setFreq_length (chan : Byte) (f : Mhz) : (Command.setFreq chan f).frame.length = 10 := by
  rw [Command.frame, frameSetFreq, List.length_append, hz2le40_length]
  rfl

/-- The declared length of each frame is its number of bytes (R62). -/
theorem readLe_frame_length (c : Command) : readLe c.frame 0 2 = some c.frame.length := by
  cases c with
  | startIq => exact readLe_declaredLength ..
  | stopIq => exact readLe_declaredLength ..
  | setMode mode => exact readLe_declaredLength ..
  | setFreq chan f =>
    rw [frame_setFreq_length]
    exact readLe_declaredLength ..

theorem frameSetMode_injective : Function.Injective frameSetMode := by
  intro mode mode' heq
  simpa [frameSetMode] using heq

/-- The frequency field holds `hz mod 2^40`, so it tells apart what differs there (R93). -/
theorem hz2le40_eq_iff (hz hz' : Nat) : hz2le40 hz = hz2le40 hz' ↔ hz % 2 ^ 40 = hz' % 2 ^ 40 := by
  constructor
  · intro heq
    rw [← leUint_hz2le40, heq, leUint_hz2le40]
  · intro heq
    rw [← hz2le40_mod, heq, hz2le40_mod]

theorem frameSetFreq_eq_iff (chan chan' : Byte) (f f' : Mhz) :
    frameSetFreq chan f = frameSetFreq chan' f' ↔ chan = chan' ∧ mhz2hz f % 2 ^ 40 = mhz2hz f' % 2 ^ 40 := by
  simp [frameSetFreq, hz2le40_eq_iff]

/-- Settles O11: the header fields of the four frames; the mode is one byte of its frame, and the channel and the
frequency field are read back from theirs. -/
theorem encodersLengthOpcodeInjective : Obligations.EncodersLengthOpcodeInjective :=
  ⟨readLe_frame_length, readLe_opcode .., readLe_opcode .., fun _ => readLe_opcode .., fun _ _ => readLe_opcode ..,
    fun _ _ heq => frameSetMode_injective heq, fun _ _ _ _ => (frameSetFreq_eq_iff ..).mp⟩

/-- Settles O12: the comparisons scaled by `10^dp` are those of the exact rational. -/
theorem validFrequencyIsExactBands : Obligations.ValidFrequencyIsExactBands := validFreq_iff_inBands

/-! ### VALIDATE -/

/-- VALIDATE answers the mask itself, and a status that says whether it is 0. -/
theorem validateCheck_mask (c : Command) : (validateCheck c).2 = vdetOf c := by
  rw [validateCheck]
  split
  · next hzero => exact hzero.symm
  · rfl

theorem validateCheck_of_valid {c : Command} (hvalid : c.Valid) : validateCheck c = (.ok, 0) :=
  if_pos ((vdetOf_eq_zero_iff c).mpr hvalid)

theorem validateCheck_of_not_valid {c : Command} (hinvalid : ¬ c.Valid) :
    validateCheck c = (.validationError, vdetOf c) :=
  if_neg (mt (vdetOf_eq_zero_iff c).mp hinvalid)

theorem validMode_eq_false_iff (mode : Byte) : validMode mode = false ↔ 6 < mode.toNat := by
  rw [validMode, decide_eq_false_iff_not, Nat.not_le]

theorem validFreq_eq_false_iff (f : Mhz) : validFreq f = false ↔ ¬ inBands f.value := by
  rw [← validFreq_iff_inBands, Bool.not_eq_true]

theorem validChan_eq_false_iff (chan : Byte) : validChan chan = false ↔ chan ∉ chanIds := by
  rw [← validChan_iff_mem_chanIds, Bool.not_eq_true]

/-- The three bits of the mask for a SET_MODE: only bit 2 can be set. -/
theorem vdetOf_setMode_bits (mode : Byte) :
    (vdetOf (.setMode mode))[0] = false ∧ (vdetOf (.setMode mode))[1] = false ∧
      (vdetOf (.setMode mode))[2] = !validMode mode := by
  rw [vdetOf]
  cases validMode mode <;> decide

/-- The three bits of the mask for a SET_FREQ: bits 0 and 1 are set independently. -/
theorem vdetOf_setFreq_bits (chan : Byte) (f : Mhz) :
    (vdetOf (.setFreq chan f))[0] = !validFreq f ∧ (vdetOf (.setFreq chan f))[1] = !validChan chan ∧
      (vdetOf (.setFreq chan f))[2] = false := by
  rw [vdetOf]
  cases validFreq f <;> cases validChan chan <;> decide

/-- Bit 0: the frequency (R27, R102). -/
theorem vdetOf_bit_zero_iff (c : Command) :
    (vdetOf c).getLsbD 0 = true ↔ ∃ chan f, c = .setFreq chan f ∧ ¬ inBands f.value := by
  cases c with
  | startIq => simp [vdetOf]
  | stopIq => simp [vdetOf]
  | setMode mode => simp [vdetOf_setMode_bits mode]
  | setFreq chan f => simp [vdetOf_setFreq_bits chan f, validFreq_eq_false_iff]

/-- Bit 1: the channel identifier (R27, R101). -/
theorem vdetOf_bit_one_iff (c : Command) :
    (vdetOf c).getLsbD 1 = true ↔ ∃ chan f, c = .setFreq chan f ∧ chan ∉ chanIds := by
  cases c with
  | startIq => simp [vdetOf]
  | stopIq => simp [vdetOf]
  | setMode mode => simp [vdetOf_setMode_bits mode]
  | setFreq chan f => simp [vdetOf_setFreq_bits chan f, validChan_eq_false_iff]

/-- Bit 2: the channel mode (R27, R100). -/
theorem vdetOf_bit_two_iff (c : Command) :
    (vdetOf c).getLsbD 2 = true ↔ ∃ mode, c = .setMode mode ∧ 6 < mode.toNat := by
  cases c with
  | startIq => simp [vdetOf]
  | stopIq => simp [vdetOf]
  | setMode mode => simp [vdetOf_setMode_bits mode, validMode_eq_false_iff]
  | setFreq chan f => simp [vdetOf_setFreq_bits chan f]

end Sys2Proof

namespace Sys2Proof.Machine

theorem exec_validate (c : Command) (s : State) :
    exec (.validate c) s = .next { s with fn := .checked (validateCheck c).1 (validateCheck c).2 } := rfl

/-- Settles O13: VALIDATE answers the mask `vdetOf`, which is 0 for valid parameters only and whose bits are the
violations. -/
theorem validateMarksEveryViolation : Obligations.ValidateMarksEveryViolation := by
  intro c s
  refine ⟨_, _, exec_validate c s, fun hvalid => ?_, fun hinvalid => ?_, ?_⟩
  · rw [validateCheck_of_valid hvalid]
    exact ⟨rfl, rfl⟩
  · rw [validateCheck_of_not_valid hinvalid]
    exact ⟨rfl, mt (vdetOf_eq_zero_iff c).mp hinvalid⟩
  · rw [validateCheck_mask]
    exact ⟨vdetOf_bit_zero_iff c, vdetOf_bit_one_iff c, vdetOf_bit_two_iff c⟩

/-! ### The encoders without a frequency -/

theorem exec_encStartIq (s : State) : exec .encStartIq s = .next { s with fn := .frame frameStartIq } := rfl

theorem exec_encStopIq (s : State) : exec .encStopIq s = .next { s with fn := .frame frameStopIq } := rfl

theorem exec_encSetMode (mode : Byte) (s : State) :
    exec (.encSetMode mode) s = .next { s with fn := .frame (frameSetMode mode) } := rfl

/-- Settles O10: the frames of R103 to R105 are those of the layouts, written out. -/
theorem templateFramesEncoded : Obligations.TemplateFramesEncoded :=
  fun s => ⟨exec_encStartIq s, exec_encStopIq s, fun mode => exec_encSetMode mode s⟩

end Sys2Proof.Machine

/-! ## What PARSE answers (R111, R117) -/

namespace Sys2Proof.Machine

theorem exec_parse (B : List Byte) (s : State) : exec (.parse B) s = .next { s with fn := .parsed (parse B) } := rfl

/-- Settles O14: a record per length of the buffer, the low-bits test of the layouts being the mask test of R111. -/
theorem parsePartition : Obligations.ParsePartition := by
  refine ⟨exec_parse, rfl, fun _ => rfl, fun b0 b1 => ?_, fun b0 b1 b2 => ?_, fun b0 b1 b2 b3 ps => ?_⟩
  · rw [parse_pair]
    split <;> rfl
  · rw [parse_triple]
    simp only [lowBits_eq_iff]
    rfl
  · rw [parse_long]
    simp only [lowBits_eq_iff]
    rfl

/-- An unknown buffer has no field and is not flagged (R116). -/
theorem parse_eq_unknownRec {B : List Byte} (hcls : (parse B).cls = .unknown) : parse B = Parse.unknownRec := by
  obtain h | ⟨_, h⟩ | ⟨_, _, h⟩ | h | h := parse_cases B
  case inr.inr.inr.inr => exact h
  all_goals rw [h] at hcls; cases hcls

theorem parse_plen_le (B : List Byte) : (parse B).plen ≤ B.length := by
  obtain h | ⟨_, h⟩ | ⟨_, _, h⟩ | h | h := parse_cases B <;> rw [h]
  case inr.inr.inl => exact Nat.sub_le _ _
  all_goals exact Nat.zero_le _

/-! ### The records of the rows -/

theorem parse_nakBytes : parse nakBytes = Parse.nakRec := parse_pair 0x02 0x00

theorem parse_ackBytes (item : Byte) : parse (ackBytes item) = Parse.ackRec item := parse_triple 0x03 0x60 item

theorem parse_uciBytes (b0 : Byte) (hi : BitVec 5) (code : BitVec 16) (params : List Byte) :
    parse (uciBytes b0 hi code params) = Parse.uciRec code params.length := by
  obtain ⟨c0, c1, rfl⟩ := exists_le16 code
  rw [uciBytes_le16, parse_long, if_pos (lowBits_uciByte1 hi)]

theorem parse_uciShortBytes (b0 : Byte) (hi : BitVec 5) (b2 : Byte) :
    parse (uciShortBytes b0 hi b2) = Parse.uciMalformedRec := by
  rw [uciShortBytes, parse_triple, if_neg fun hack => uciByte1_ne_ackByte1 hi hack.2, if_pos (lowBits_uciByte1 hi)]

/-! ### Byte 1 of an unsolicited item, by mask and shift -/

theorem uciByte1_and_mask (hi : BitVec 5) : uciByte1 hi &&& 0x07 = 0x01 :=
  (lowBits_eq_iff _).mp (lowBits_uciByte1 hi)

theorem shiftRight_eq_highBits (b1 : Byte) : b1 >>> 3 = (highBits b1).setWidth 8 := by
  have hlt : b1.toNat < 256 := b1.isLt
  apply BitVec.eq_of_toNat_eq
  simp only [highBits, BitVec.toNat_ushiftRight, BitVec.toNat_setWidth, BitVec.extractLsb'_toNat,
    Nat.shiftRight_eq_div_pow]
  omega

theorem uciByte1_shiftRight (hi : BitVec 5) : uciByte1 hi >>> 3 = hi.setWidth 8 := by
  rw [shiftRight_eq_highBits, highBits_uciByte1]

end Sys2Proof.Machine

/-! ## The read of a round trip is answered (R128, R136, R137)

One lemma says what every row of format RESP does to a round trip that waits for its read; a row adds its bytes and the
record that PARSE gives them. -/

namespace Sys2Proof.Machine

/-- A round trip ends with the parsed slice in `res`: both 11-bit counts are exact because the slice fits `RESP` (R27). -/
theorem Control.finishRead_answered {c : Control} (hfits : c.resp.length ≤ respBuf) :
    c.Answered c.finishRead c.resp (parse c.resp) := by
  have hcount : ∀ k, k ≤ c.resp.length → (BitVec.ofNat 11 k).toNat = k := fun k hk =>
    Nat.mod_eq_of_lt (Nat.lt_of_le_of_lt (hk.trans hfits) (by decide))
  rw [finishRead_eq]
  refine ⟨rfl, rfl, rfl, rfl, rfl, rfl, rfl, hcount _ le_rfl, rfl, rfl, rfl, rfl, hcount _ (parse_plen_le _), ?_⟩
  by_cases hcls : (parse c.resp).cls = .unknown
  · simp [parse_eq_unknownRec hcls, Parse.unknownRec]
  · cases hmal : (parse c.resp).malformed <;> simp [hcls]

/-- Bytes that come while a read waits and nothing is queued are what that read returns, up to the capacity of `RESP`. -/
theorem Control.offerRead_data_waiting {c : Control} (hwait : c.wait = .read) (hqueue : c.tp.readAns = [])
    (B : List Byte) :
    c.offerRead (.data B) =
      { c with resp := B.take respBuf, tp := { c.tp with readAns := leftover B [] } }.finishRead := by
  have hfirst : c.tp.readAns ++ [.data B] = [.data B] := by rw [hqueue, List.nil_append]
  simp only [offerRead, resume, hwait, hfirst]
  exact resumeRead_data rfl

theorem leftover_of_fits {B : List Byte} (hfits : B.length ≤ respBuf) (rest : List ReadAns) : leftover B rest = rest :=
  if_neg (Nat.not_lt.mpr hfits)

/-- Bytes that fit `RESP` complete the waiting round trip in full; connection, command buffer and transport stay. -/
theorem Control.offerRead_data_answered {c : Control} {B : List Byte} (hfits : B.length ≤ respBuf)
    (hwait : c.wait = .read) (hqueue : c.tp.readAns = []) :
    c.Answered (c.offerRead (.data B)) B (parse B) ∧ (c.offerRead (.data B)).conn = c.conn ∧
    (c.offerRead (.data B)).cmd = c.cmd ∧ (c.offerRead (.data B)).tp = c.tp := by
  have heq : c.offerRead (.data B) = { c with resp := B }.finishRead := by
    rw [offerRead_data_waiting hwait hqueue, List.take_of_length_le hfits, leftover_of_fits hfits, ← hqueue]
  have hans : { c with resp := B }.Answered { c with resp := B }.finishRead B (parse B) := finishRead_answered hfits
  rw [heq]
  exact ⟨{ hans with }, finishRead_conn _, finishRead_cmd _, finishRead_tp _⟩

/-- What a row of format RESP does to a round trip that waits for its read, given the record of its bytes. -/
theorem exec_answers_read {i : Instr} {B : List Byte} {p : Parse} {s : State} (henc : encode i = .resp B)
    (hparse : parse B = p) (hfits : B.length ≤ respBuf) (hwait : s.ctl.wait = .read) (hqueue : s.ctl.tp.readAns = []) :
    ∃ t, exec i s = .next t ∧ t = { s with ctl := t.ctl } ∧ s.ctl.Answered t.ctl B p ∧
      t.ctl.conn = s.ctl.conn ∧ t.ctl.cmd = s.ctl.cmd ∧ t.ctl.tp = s.ctl.tp :=
  ⟨_, exec_of_encode_resp henc s, rfl, hparse ▸ Control.offerRead_data_answered hfits hwait hqueue⟩

/-- Settles O15: the two bytes of R68, of the class NAK. -/
theorem nakAnswersRead : Obligations.NakAnswersRead := fun _ =>
  exec_answers_read rfl parse_nakBytes (by decide)

/-- Settles O16: the three bytes of R69, of the class ACK whatever the item is. -/
theorem ackAnswersRead : Obligations.AckAnswersRead := fun item _ =>
  exec_answers_read rfl (parse_ackBytes item) (by decide : 3 ≤ respBuf)

/-- Settles O17: byte 1 is `uciByte1 hi`, bytes 2 and 3 are those of the little-endian code; with its four bytes of
header an item of 1020 parameter bytes just fits `RESP`. -/
theorem uciAnswersRead : Obligations.UciAnswersRead := by
  intro b0 hi code params s hlen hwait hqueue
  obtain ⟨c0, c1, rfl⟩ := exists_le16 code
  have hbytes := uciBytes_le16 b0 hi c0 c1 params
  have hcode : c0.toNat + 256 * c1.toNat = (le16 c0 c1).toNat := by simp [le16_toNat, leUint]
  have hfits : (uciBytes b0 hi (le16 c0 c1) params).length ≤ respBuf := by
    rw [hbytes]
    exact Nat.add_le_add_right hlen 4
  obtain ⟨t, hexec, hframe, hans, hctl⟩ :=
    exec_answers_read (i := .uci b0 hi (le16 c0 c1) params) rfl (parse_uciBytes b0 hi _ params) hfits hwait hqueue
  rw [hbytes] at hans
  exact ⟨t, uciByte1 hi, c0, c1, hexec, hframe, uciByte1_and_mask hi, uciByte1_shiftRight hi, hcode, hans, hctl⟩

/-- Settles O18: the three bytes of R115, whose byte 1 is `uciByte1 hi`. -/
theorem shortUciAnswersRead : Obligations.ShortUciAnswersRead := by
  intro b0 hi b2 s hwait hqueue
  obtain ⟨t, hexec, hframe, hctl⟩ :=
    exec_answers_read (i := .uciMalformed b0 hi b2) rfl (parse_uciShortBytes b0 hi b2) (by decide : 3 ≤ respBuf) hwait
      hqueue
  exact ⟨t, uciByte1 hi, hexec, hframe, uciByte1_and_mask hi, uciByte1_shiftRight hi, hctl⟩

/-- Settles O19: a well-formed UNKNOWN has the record of R116, and the report of an answered round trip for that class is
ProtocolError. -/
theorem unknownAnswersRead : Obligations.UnknownAnswersRead := by
  intro raw s hwf hlen hwait hqueue
  have hparse : parse raw = Parse.unknownRec := parse_eq_unknownRec (beq_iff_eq.mp hwf)
  obtain ⟨t, hexec, hframe, hans, hctl⟩ := exec_answers_read (i := .unknown raw) rfl hparse hlen hwait hqueue
  have hreport : (t.ctl.ev, t.ctl.evValid) = (Code.protocolError, true) := hans.ev
  obtain ⟨hev, hvalid⟩ := Prod.mk.inj hreport
  exact ⟨t, hexec, hframe, hans, hev, hvalid, hctl⟩

end Sys2Proof.Machine

/-! ## The round trip, case by case (R128, R134 to R138)

An equation for each answer that the read and the write can find. What a command request, ROUNDTRIP on its own and a late
answer do follows from these. -/

namespace Sys2Proof.Machine

/-! ### The read -/

theorem Control.startRead_nil {c : Control} (hread : c.tp.readAns = []) :
    c.startRead = { c with resp := [], wait := .read }.act .read :=
  resumeRead_nil (by exact hread)

theorem Control.startRead_fail {c : Control} {rs : List ReadAns} (hread : c.tp.readAns = .fail :: rs) :
    c.startRead =
      { c with
        resp := [], wait := .read
        tp := { c.tp with readAns := rs, acts := c.tp.acts ++ [TpAct.read] } }.raise .transferError 0 1 :=
  resumeRead_fail (by exact hread)

theorem Control.startRead_data {c : Control} {B : List Byte} {rs : List ReadAns}
    (hread : c.tp.readAns = .data B :: rs) :
    c.startRead =
      { c with
        resp := B.take respBuf, wait := .read
        tp := { c.tp with readAns := leftover B rs, acts := c.tp.acts ++ [TpAct.read] } }.finishRead :=
  resumeRead_data (by exact hread)

/-- What fills `RESP` from a read is cut at its capacity, so a round trip that ends with it is answered by it (R138). -/
theorem Control.finishRead_answered_of_take {c d : Control} {B : List Byte} (hresp : d.resp = B.take respBuf)
    (hev : d.ev = c.ev) (hvalid : d.evValid = c.evValid) :
    c.Answered d.finishRead (B.take respBuf) (parse (B.take respBuf)) := by
  have hfits : d.resp.length ≤ respBuf := by simp [hresp]
  have hans := finishRead_answered hfits
  rw [hresp] at hans
  exact { hans with ev := by rw [← hev, ← hvalid]; exact hans.ev }

/-- Settles O20: the waiting read takes what `RESP` holds, and what is longer leaves its rest in the transport. -/
theorem overlongReplyIsCut : Obligations.OverlongReplyIsCut := by
  intro i B s henc hlong hwait hqueue
  have hrest : leftover B [] = [.data (B.drop respBuf)] := if_pos hlong
  have hread := Control.offerRead_data_waiting hwait hqueue B
  rw [hrest] at hread
  have hexec := exec_of_encode_resp henc s
  rw [State.onCtl, hread] at hexec
  exact ⟨_, hexec, rfl, Control.finishRead_answered_of_take rfl rfl rfl, Control.finishRead_tp _,
    Control.finishRead_conn _, Control.finishRead_cmd _⟩

/-! ### The write and the read after it -/

theorem Control.startRoundtrip_unwritten {c : Control} (hwrite : c.tp.writeAns = []) (F : List Byte) :
    c.startRoundtrip F = { c with cmd := F, wait := .write }.act (.write F) :=
  resumeWrite_nil (by exact hwrite)

theorem Control.startRoundtrip_writeFail {c : Control} {k : Nat} {ws : List WriteAns}
    (hwrite : c.tp.writeAns = .fail k :: ws) (F : List Byte) :
    c.startRoundtrip F =
      { c with
        cmd := F, wait := .write
        tp := { c.tp with
          writeAns := ws, acts := c.tp.acts ++ [TpAct.write F], delivered := c.tp.delivered ++ F.take k } }.raise
        .transferError 0 0 :=
  resumeWrite_fail (by exact hwrite)

theorem Control.startRoundtrip_written {c : Control} {ws : List WriteAns} (hwrite : c.tp.writeAns = .ok :: ws)
    (F : List Byte) :
    c.startRoundtrip F =
      { c with
        cmd := F, wait := .write
        tp := { c.tp with
          writeAns := ws, acts := c.tp.acts ++ [TpAct.write F], delivered := c.tp.delivered ++ F } }.startRead :=
  resumeWrite_ok (by exact hwrite)

/-! ### The round trip of an agent `c` that has just accepted a request -/

section AcceptedRoundtrip

variable {c : Control} (r : Req) (F : List Byte)

theorem Control.accept_startRoundtrip_answered {ws : List WriteAns} {B : List Byte} {rs : List ReadAns}
    (hwrite : c.tp.writeAns = .ok :: ws) (hread : c.tp.readAns = .data B :: rs) :
    c.Answered ((c.accept r).startRoundtrip F) (B.take respBuf) (parse (B.take respBuf)) ∧
    ((c.accept r).startRoundtrip F).tp = { c.tp with
      writeAns := ws, readAns := leftover B rs, acts := c.tp.acts ++ [TpAct.write F, .read],
      delivered := c.tp.delivered ++ F } := by
  rw [startRoundtrip_written (by exact hwrite), startRead_data (by exact hread)]
  exact ⟨finishRead_answered_of_take rfl rfl rfl, by simp⟩

theorem Control.accept_startRoundtrip_writeFail {k : Nat} {ws : List WriteAns}
    (hwrite : c.tp.writeAns = .fail k :: ws) :
    c.Completed ((c.accept r).startRoundtrip F) (errorRes .transferError 0 0) ∧
    ((c.accept r).startRoundtrip F).resp = c.resp ∧
    ((c.accept r).startRoundtrip F).tp = { c.tp with
      writeAns := ws, acts := c.tp.acts ++ [TpAct.write F], delivered := c.tp.delivered ++ F.take k } := by
  rw [startRoundtrip_writeFail (by exact hwrite)]
  exact ⟨⟨rfl, rfl, rfl, rfl, rfl, rfl⟩, rfl, rfl⟩

theorem Control.accept_startRoundtrip_readFail {ws : List WriteAns} {rs : List ReadAns}
    (hwrite : c.tp.writeAns = .ok :: ws) (hread : c.tp.readAns = .fail :: rs) :
    c.Completed ((c.accept r).startRoundtrip F) (errorRes .transferError 0 1) ∧
    ((c.accept r).startRoundtrip F).resp = [] ∧
    ((c.accept r).startRoundtrip F).tp = { c.tp with
      writeAns := ws, readAns := rs, acts := c.tp.acts ++ [TpAct.write F, .read],
      delivered := c.tp.delivered ++ F } := by
  rw [startRoundtrip_written (by exact hwrite), startRead_fail (by exact hread)]
  exact ⟨⟨rfl, rfl, rfl, rfl, rfl, rfl⟩, rfl, by simp⟩

theorem Control.accept_startRoundtrip_unwritten (hwrite : c.tp.writeAns = []) :
    c.Pending ((c.accept r).startRoundtrip F) .write ∧
    ((c.accept r).startRoundtrip F).resp = c.resp ∧ ((c.accept r).startRoundtrip F).op = r ∧
    ((c.accept r).startRoundtrip F).tp = { c.tp with acts := c.tp.acts ++ [TpAct.write F] } := by
  rw [startRoundtrip_unwritten (by exact hwrite)]
  exact ⟨⟨rfl, rfl, rfl, rfl, rfl, rfl, rfl⟩, rfl, rfl, rfl⟩

theorem Control.accept_startRoundtrip_unread {ws : List WriteAns} (hwrite : c.tp.writeAns = .ok :: ws)
    (hread : c.tp.readAns = []) :
    c.Pending ((c.accept r).startRoundtrip F) .read ∧
    ((c.accept r).startRoundtrip F).resp = [] ∧ ((c.accept r).startRoundtrip F).op = r ∧
    ((c.accept r).startRoundtrip F).tp = { c.tp with
      writeAns := ws, acts := c.tp.acts ++ [TpAct.write F, .read], delivered := c.tp.delivered ++ F } := by
  rw [startRoundtrip_written (by exact hwrite), startRead_nil (by exact hread)]
  exact ⟨⟨rfl, rfl, rfl, rfl, rfl, rfl, rfl⟩, rfl, rfl, by simp⟩

end AcceptedRoundtrip

/-! ## Command requests (R127 to R132) -/

/-- Every command request is ADMIT and ROUNDTRIP of its command behind the test of `busy`. -/
theorem exec_of_commandOf {i : Instr} {cmd : Command} {s : State} (hcmd : commandOf s.params.freqDp i = some cmd) :
    ∃ r, exec i s = .next (s.onCtl (·.request r (·.command cmd))) := by
  cases i with
  | startIq p => obtain rfl := Option.some.inj hcmd; exact ⟨_, rfl⟩
  | stopIq p => obtain rfl := Option.some.inj hcmd; exact ⟨_, rfl⟩
  | setMode p => obtain rfl := Option.some.inj hcmd; exact ⟨_, rfl⟩
  | setFreq p => obtain rfl := Option.some.inj hcmd; exact ⟨_, rfl⟩
  | _ => cases hcmd

/-- An admitted command makes its round trip (R127). -/
theorem Control.command_admitted {c : Control} {cmd : Command} (hvalid : cmd.Valid) (hconn : c.conn = .connected) :
    c.command cmd = c.startRoundtrip cmd.frame := by
  obtain ⟨hv, _⟩ | ⟨_, hd, _⟩ | ⟨_, _, heq⟩ := c.command_cases cmd
  · exact absurd ((vdetOf_eq_zero_iff cmd).mpr hvalid) hv
  · exact absurd (hconn.symm.trans hd) nofun
  · exact heq

/-- A request of an admitted command, made while idle, is that command's round trip. -/
theorem exec_admitted_command {i : Instr} {cmd : Command} {s : State} (hcmd : commandOf s.params.freqDp i = some cmd)
    (hvalid : cmd.Valid) (hidle : s.ctl.busy = false) (hconn : s.ctl.conn = .connected) :
    ∃ r, exec i s = .next { s with ctl := (s.ctl.accept r).startRoundtrip cmd.frame } := by
  obtain ⟨r, hexec⟩ := exec_of_commandOf hcmd
  rw [State.onCtl, Control.request_idle hidle, Control.command_admitted hvalid (by exact hconn)] at hexec
  exact ⟨r, hexec⟩

/-- Settles O22: the round trip of the command's frame, with the write ok and bytes for the read. -/
theorem commandRoundTripCompletes : Obligations.CommandRoundTripCompletes := by
  intro i cmd s ws B rs hcmd hvalid hidle hconn hwrite hread
  obtain ⟨r, hexec⟩ := exec_admitted_command hcmd hvalid hidle hconn
  obtain ⟨hans, htp⟩ := Control.accept_startRoundtrip_answered r cmd.frame hwrite hread
  exact ⟨_, hexec, rfl, hans, (Control.startRoundtrip_conn ..).trans hconn, Control.startRoundtrip_cmd .., htp⟩

/-- Settles O25: the round trip of the command's frame, with a failure for the write. -/
theorem writeFailureIsTransferError : Obligations.WriteFailureIsTransferError := by
  intro i cmd s k ws hcmd hvalid hidle hconn hwrite
  obtain ⟨r, hexec⟩ := exec_admitted_command hcmd hvalid hidle hconn
  obtain ⟨hdone, hresp, htp⟩ := Control.accept_startRoundtrip_writeFail r cmd.frame hwrite
  exact ⟨_, hexec, rfl, hdone, (Control.startRoundtrip_conn ..).trans hconn, Control.startRoundtrip_cmd .., hresp, htp⟩

/-- Settles O26: the round trip of the command's frame, with the write ok and a failure for the read. -/
theorem readFailureIsTransferError : Obligations.ReadFailureIsTransferError := by
  intro i cmd s ws rs hcmd hvalid hidle hconn hwrite hread
  obtain ⟨r, hexec⟩ := exec_admitted_command hcmd hvalid hidle hconn
  obtain ⟨hdone, hresp, htp⟩ := Control.accept_startRoundtrip_readFail r cmd.frame hwrite hread
  exact ⟨_, hexec, rfl, hdone, (Control.startRoundtrip_conn ..).trans hconn, Control.startRoundtrip_cmd .., hresp, htp⟩

/-! ### ADMIT and ROUNDTRIP on their own -/

theorem exec_admitCmd (cmd : Command) (s : State) :
    exec (.admitCmd cmd) s =
      .next { s with fn := .checked (admitCheck cmd s.ctl.conn).1 (admitCheck cmd s.ctl.conn).2 } := rfl

theorem admitCheck_of_not_valid {cmd : Command} (hinvalid : ¬ cmd.Valid) (conn : ConnState) :
    admitCheck cmd conn = (.validationError, vdetOf cmd) :=
  if_neg (mt (vdetOf_eq_zero_iff cmd).mp hinvalid)

theorem admitCheck_disconnected_of_valid {cmd : Command} (hvalid : cmd.Valid) :
    admitCheck cmd .disconnected = (.stateError, 0) :=
  if_pos ((vdetOf_eq_zero_iff cmd).mpr hvalid)

theorem admitCheck_connected_of_valid {cmd : Command} (hvalid : cmd.Valid) :
    admitCheck cmd .connected = (.ok, 0) :=
  if_pos ((vdetOf_eq_zero_iff cmd).mpr hvalid)

/-- Settles O34: the three verdicts of ADMIT, the parameters first. -/
theorem admissionOrder : Obligations.AdmissionOrder := by
  intro cmd s
  refine ⟨_, _, exec_admitCmd cmd s, fun hinvalid => ?_, fun hvalid hconn => ?_, fun hvalid hconn => ?_⟩
  · rw [admitCheck_of_not_valid hinvalid]
    exact ⟨rfl, mt (vdetOf_eq_zero_iff cmd).mp hinvalid⟩
  · rw [hconn, admitCheck_disconnected_of_valid hvalid]
    exact ⟨rfl, rfl⟩
  · rw [hconn, admitCheck_connected_of_valid hvalid]
    exact ⟨rfl, rfl⟩

/-- ROUNDTRIP on its own loads no operand register, so it is the acceptance of the operands already there (log 13). -/
theorem exec_roundtrip_admitted {cmd : Command} {s : State} (hvalid : cmd.Valid) (hidle : s.ctl.busy = false)
    (hconn : s.ctl.conn = .connected) :
    exec (.roundtrip cmd) s = .next { s with ctl := (s.ctl.accept s.ctl.op).startRoundtrip cmd.frame } := by
  have hadmit := (admitCheck_ok_iff cmd s.ctl.conn).mpr ⟨(vdetOf_eq_zero_iff cmd).mpr hvalid, hconn⟩
  have hstart : s.ctl.roundtripAlone cmd = (s.ctl.accept s.ctl.op).startRoundtrip cmd.frame := if_pos ⟨hidle, hadmit⟩
  rw [← hstart]
  rfl

theorem exec_roundtrip_not_enabled {cmd : Command} {s : State}
    (h : ¬ cmd.Valid ∨ s.ctl.busy = true ∨ s.ctl.conn = .disconnected) : exec (.roundtrip cmd) s = .next s := by
  have hkeep : s.ctl.roundtripAlone cmd = s.ctl := by
    obtain ⟨_, heq⟩ | ⟨hidle, hv, hconn, _⟩ := s.ctl.roundtripAlone_cases cmd
    · exact heq
    · have hvalid := (vdetOf_eq_zero_iff cmd).mp hv
      simp [hvalid, hidle, hconn] at h
  show Host.Outcome.next { s with ctl := s.ctl.roundtripAlone cmd } = _
  rw [hkeep]

/-- Settles O35: the five ways a round trip goes, as for a request; where ROUNDTRIP is not enabled it does nothing. -/
theorem roundTripAlone : Obligations.RoundTripAlone := by
  refine fun cmd s => ⟨fun hvalid hidle hconn => ?_, exec_roundtrip_not_enabled⟩
  have hexec := exec_roundtrip_admitted hvalid hidle hconn
  have hconn' := (Control.startRoundtrip_conn (s.ctl.accept s.ctl.op) cmd.frame).trans hconn
  have hframe := Control.startRoundtrip_cmd (s.ctl.accept s.ctl.op) cmd.frame
  refine ⟨fun ws B rs hwrite hread => ?_, fun k ws hwrite => ?_, fun ws rs hwrite hread => ?_, fun hwrite => ?_,
    fun ws hwrite hread => ?_⟩
  · obtain ⟨hans, htp⟩ := Control.accept_startRoundtrip_answered s.ctl.op cmd.frame hwrite hread
    exact ⟨_, hexec, rfl, hans, hconn', hframe, htp⟩
  · exact ⟨_, hexec, rfl, (Control.accept_startRoundtrip_writeFail s.ctl.op cmd.frame hwrite).imp_right
      fun hrest => ⟨hconn', hframe, hrest⟩⟩
  · exact ⟨_, hexec, rfl, (Control.accept_startRoundtrip_readFail s.ctl.op cmd.frame hwrite hread).imp_right
      fun hrest => ⟨hconn', hframe, hrest⟩⟩
  · exact ⟨_, hexec, rfl, (Control.accept_startRoundtrip_unwritten s.ctl.op cmd.frame hwrite).imp_right
      fun hrest => ⟨hframe, hrest⟩⟩
  · exact ⟨_, hexec, rfl, (Control.accept_startRoundtrip_unread s.ctl.op cmd.frame hwrite hread).imp_right
      fun hrest => ⟨hframe, hrest⟩⟩

/-! ## CONNECT and DISCONNECT (R125, R126, R139) -/

theorem Control.connect_connected {c : Control} (hconn : c.conn = .connected) : c.connect = c.raise .refused 0 0 := by
  simp [connect, hconn]

theorem Control.connect_disconnected {c : Control} (hconn : c.conn = .disconnected) :
    c.connect = ({ c with wait := .connect }.act .connect).resumeConnect := by
  simp [connect, hconn]

theorem Control.disconnect_connected {c : Control} (hconn : c.conn = .connected) :
    c.disconnect = ({ c.act .close with conn := .disconnected }).complete resZero := by
  simp [disconnect, hconn]

theorem Control.disconnect_disconnected {c : Control} (hconn : c.conn = .disconnected) :
    c.disconnect = c.complete resZero := by
  simp [disconnect, hconn]

theorem exec_connect_idle (p : Ports) {s : State} (hidle : s.ctl.busy = false) :
    exec (.connect p) s = .next { s with ctl := (s.ctl.accept { code := 4, ports := p }).connect } := by
  rw [← Control.request_idle hidle _ (·.connect)]
  rfl

theorem exec_disconnect_idle (p : Ports) {s : State} (hidle : s.ctl.busy = false) :
    exec (.disconnect p) s = .next { s with ctl := (s.ctl.accept { code := 5, ports := p }).disconnect } := by
  rw [← Control.request_idle hidle _ (·.disconnect)]
  rfl

/-- Settles O30: an accepted CONNECT asks for the connection, and goes on with the answer that is there. -/
theorem connectOutcomes : Obligations.ConnectOutcomes := by
  intro p s hidle hconn
  have hexec := exec_connect_idle p hidle
  rw [Control.connect_disconnected (by exact hconn)] at hexec
  refine ⟨fun cs hans => ?_, fun cs hans => ?_, fun hans => ?_⟩
  · rw [Control.resumeConnect_ok (by exact hans)] at hexec
    exact ⟨_, hexec, rfl, ⟨rfl, rfl, rfl, rfl, rfl, rfl⟩, rfl, rfl, rfl, rfl⟩
  · rw [Control.resumeConnect_fail (by exact hans)] at hexec
    exact ⟨_, hexec, rfl, ⟨rfl, rfl, rfl, rfl, rfl, rfl⟩, rfl, hconn, rfl, rfl, rfl⟩
  · rw [Control.resumeConnect_nil (by exact hans)] at hexec
    exact ⟨_, hexec, rfl, ⟨rfl, rfl, rfl, rfl, rfl, rfl, rfl⟩, rfl, rfl, rfl⟩

/-- Settles O31: an accepted CONNECT is raised as Refused before anything is asked of the transport. -/
theorem connectWhileConnectedRefused : Obligations.ConnectWhileConnectedRefused := by
  intro p s hidle hconn
  have hexec := exec_connect_idle p hidle
  rw [Control.connect_connected (by exact hconn)] at hexec
  exact ⟨_, hexec, rfl, s.ctl.accept_raise_completed _ .refused 0 0, hconn, rfl, rfl, rfl⟩

/-- Settles O33: in either connection state, one completion; only the connected channel asks for `close` before it. -/
theorem disconnectNeverFails : Obligations.DisconnectNeverFails := by
  intro p s hidle
  have hexec := exec_disconnect_idle p hidle
  cases hconn : s.ctl.conn with
  | disconnected =>
    rw [Control.disconnect_disconnected (by exact hconn)] at hexec
    exact ⟨_, hexec, rfl, ⟨rfl, rfl, rfl, rfl, rfl, rfl⟩, hconn, rfl, rfl, by simp⟩
  | connected =>
    rw [Control.disconnect_connected (by exact hconn)] at hexec
    exact ⟨_, hexec, rfl, ⟨rfl, rfl, rfl, rfl, rfl, rfl⟩, rfl, rfl, rfl, rfl⟩

/-! ## Late answers (R188, R202)

An answer that a waiting request finds alone in its queue is used at once, so the queue is what it was. -/

theorem Control.resume_connect {c : Control} (hwait : c.wait = .connect) : c.resume = c.resumeConnect := by
  simp [resume, hwait]

theorem Control.resume_write {c : Control} (hwait : c.wait = .write) : c.resume = c.resumeWrite := by
  simp [resume, hwait]

theorem Control.resume_read {c : Control} (hwait : c.wait = .read) : c.resume = c.resumeRead := by
  simp [resume, hwait]

theorem Control.offerConnect_ok_waiting {c : Control} (hwait : c.wait = .connect) (hqueue : c.tp.connectAns = []) :
    c.offerConnect true = { c with conn := .connected }.complete resZero := by
  rw [offerConnect, resume_connect (by exact hwait)]
  exact resumeConnect_ok (by simp [hqueue])

theorem Control.offerConnect_fail_waiting {c : Control} (hwait : c.wait = .connect) (hqueue : c.tp.connectAns = []) :
    c.offerConnect false = c.raise .connectionError 0 0 := by
  rw [offerConnect, resume_connect (by exact hwait)]
  exact resumeConnect_fail (by simp [hqueue])

theorem Control.offerWrite_ok_waiting {c : Control} (hwait : c.wait = .write) (hqueue : c.tp.writeAns = []) :
    c.offerWrite .ok = { c with tp := { c.tp with delivered := c.tp.delivered ++ c.cmd } }.startRead := by
  rw [offerWrite, resume_write (by exact hwait)]
  exact resumeWrite_ok (by simp [hqueue])

theorem Control.offerWrite_fail_waiting {c : Control} (hwait : c.wait = .write) (hqueue : c.tp.writeAns = [])
    (k : Nat) :
    c.offerWrite (.fail k) =
      { c with tp := { c.tp with delivered := c.tp.delivered ++ c.cmd.take k } }.raise .transferError 0 0 := by
  rw [offerWrite, resume_write (by exact hwait)]
  exact resumeWrite_fail (by simp [hqueue])

theorem Control.offerRead_fail_waiting {c : Control} (hwait : c.wait = .read) (hqueue : c.tp.readAns = []) :
    c.offerRead .fail = c.raise .transferError 0 1 := by
  rw [offerRead, resume_read (by exact hwait)]
  exact resumeRead_fail (by simp [hqueue])

theorem step_of_connectAns {s : State} {ok : Bool} {rest : List Stim} (hfeed : s.feed = .connectAns ok :: rest) :
    step s = .next { s with ctl := s.ctl.quiet.offerConnect ok, rx := s.rx.quiet, feed := rest } :=
  step_of_not_txn hfeed nofun

theorem step_of_writeAns {s : State} {a : WriteAns} {rest : List Stim} (hfeed : s.feed = .writeAns a :: rest) :
    step s = .next { s with ctl := s.ctl.quiet.offerWrite a, rx := s.rx.quiet, feed := rest } :=
  step_of_not_txn hfeed nofun

theorem step_of_readFail {s : State} {rest : List Stim} (hfeed : s.feed = .readFail :: rest) :
    step s = .next { s with ctl := s.ctl.quiet.offerRead .fail, rx := s.rx.quiet, feed := rest } :=
  step_of_not_txn hfeed nofun

/-- Settles O36: a case for each answer and, after a write, for what the read finds. -/
theorem lateAnswerResumesRequest : Obligations.LateAnswerResumesRequest := by
  intro s e rest hfeed
  refine ⟨?connect, ?unread, ?answered, ?readFails, ?writeFails, ?lateReadFails⟩
  case connect =>
    rintro ok rfl hwait hqueue
    have hstep := step_of_connectAns hfeed
    cases ok with
    | true =>
      rw [Control.offerConnect_ok_waiting (by exact hwait) (by exact hqueue)] at hstep
      exact ⟨_, hstep, rfl, ⟨rfl, rfl, rfl, rfl, rfl, rfl⟩, rfl, rfl, rfl, rfl⟩
    | false =>
      rw [Control.offerConnect_fail_waiting (by exact hwait) (by exact hqueue)] at hstep
      exact ⟨_, hstep, rfl, ⟨rfl, rfl, rfl, rfl, rfl, rfl⟩, rfl, rfl, rfl, rfl⟩
  case unread =>
    rintro rfl hbusy hwait hqueue hread
    have hstep := step_of_writeAns hfeed
    rw [Control.offerWrite_ok_waiting (by exact hwait) (by exact hqueue),
      Control.startRead_nil (by exact hread)] at hstep
    exact ⟨_, hstep, rfl, ⟨hbusy, rfl, rfl, rfl, rfl, rfl, rfl⟩, rfl, rfl, rfl, rfl⟩
  case answered =>
    rintro B rs rfl hwait hqueue hread
    have hstep := step_of_writeAns hfeed
    rw [Control.offerWrite_ok_waiting (by exact hwait) (by exact hqueue),
      Control.startRead_data (by exact hread)] at hstep
    exact ⟨_, hstep, rfl, Control.finishRead_answered_of_take rfl rfl rfl, Control.finishRead_conn _,
      Control.finishRead_cmd _, Control.finishRead_tp _⟩
  case readFails =>
    rintro rs rfl hwait hqueue hread
    have hstep := step_of_writeAns hfeed
    rw [Control.offerWrite_ok_waiting (by exact hwait) (by exact hqueue),
      Control.startRead_fail (by exact hread)] at hstep
    exact ⟨_, hstep, rfl, ⟨rfl, rfl, rfl, rfl, rfl, rfl⟩, rfl, rfl, rfl, rfl⟩
  case writeFails =>
    rintro k rfl hwait hqueue
    have hstep := step_of_writeAns hfeed
    rw [Control.offerWrite_fail_waiting (by exact hwait) (by exact hqueue)] at hstep
    exact ⟨_, hstep, rfl, ⟨rfl, rfl, rfl, rfl, rfl, rfl⟩, rfl, rfl, rfl, rfl⟩
  case lateReadFails =>
    rintro rfl hwait hqueue
    have hstep := step_of_readFail hfeed
    rw [Control.offerRead_fail_waiting (by exact hwait) (by exact hqueue)] at hstep
    exact ⟨_, hstep, rfl, ⟨rfl, rfl, rfl, rfl, rfl, rfl⟩, rfl, rfl, rfl, rfl⟩

/-! ## Errors and the connection state (R141) -/

/-- From `c` to `c'` the connection state is what it was if the status is an error, and Disconnected if that is
ConnectionError. -/
def Control.ErrorKeepsConn (c c' : Control) : Prop :=
  c'.res.st ≠ .ok → c'.conn = c.conn ∧ (c'.res.st = .connectionError → c'.conn = .disconnected)

namespace Control

theorem errorKeepsConn_of_ok {c c' : Control} (hst : c'.res.st = .ok) : c.ErrorKeepsConn c' :=
  fun herror => absurd hst herror

theorem errorKeepsConn_of_conn {c c' : Control} (hconn : c'.conn = c.conn) (hst : c'.res.st ≠ .connectionError) :
    c.ErrorKeepsConn c' :=
  fun _ => ⟨hconn, fun heq => absurd heq hst⟩

/-- No case of a round trip raises ConnectionError. -/
theorem resumeRead_st {c : Control} (hst : c.res.st = .ok) : c.resumeRead.res.st ≠ .connectionError := by
  rcases hread : c.tp.readAns with _ | ⟨B | _, rs⟩
  · simp [resumeRead_nil hread, hst]
  · simp [resumeRead_data hread, finishRead_eq, resOfParse]
  · simp [resumeRead_fail hread]

theorem resumeWrite_st {c : Control} (hst : c.res.st = .ok) : c.resumeWrite.res.st ≠ .connectionError := by
  rcases hwrite : c.tp.writeAns with _ | ⟨_ | k, ws⟩
  · simp [resumeWrite_nil hwrite, hst]
  · rw [resumeWrite_ok hwrite]
    exact resumeRead_st hst
  · simp [resumeWrite_fail hwrite]

theorem startRoundtrip_st {c : Control} (hst : c.res.st = .ok) (F : List Byte) :
    (c.startRoundtrip F).res.st ≠ .connectionError := resumeWrite_st hst

theorem startRoundtrip_errorKeepsConn {c : Control} (hst : c.res.st = .ok) (F : List Byte) :
    c.ErrorKeepsConn (c.startRoundtrip F) :=
  errorKeepsConn_of_conn (startRoundtrip_conn c F) (startRoundtrip_st hst F)

/-- A CONNECT that fails leaves the channel disconnected, as it found it (R125, R171). -/
theorem resumeConnect_errorKeepsConn {c : Control} (hst : c.res.st = .ok) (hconn : c.conn = .disconnected) :
    c.ErrorKeepsConn c.resumeConnect := by
  rcases hans : c.tp.connectAns with _ | ⟨_ | _, cs⟩
  · rw [resumeConnect_nil hans]
    exact errorKeepsConn_of_ok hst
  · rw [resumeConnect_fail hans]
    exact fun _ => ⟨rfl, fun _ => hconn⟩
  · rw [resumeConnect_ok hans]
    exact errorKeepsConn_of_ok rfl

theorem resume_errorKeepsConn {c : Control} (hst : c.res.st = .ok) (hwait : c.wait = .connect → c.conn = .disconnected) :
    c.ErrorKeepsConn c.resume := by
  unfold resume
  split
  · exact errorKeepsConn_of_ok hst
  · next hw => exact resumeConnect_errorKeepsConn hst (hwait hw)
  · exact errorKeepsConn_of_conn c.resumeWrite_conn (resumeWrite_st hst)
  · exact errorKeepsConn_of_conn c.resumeRead_conn (resumeRead_st hst)

theorem command_errorKeepsConn {c : Control} (hst : c.res.st = .ok) (cmd : Command) :
    c.ErrorKeepsConn (c.command cmd) := by
  obtain ⟨_, heq⟩ | ⟨_, _, heq⟩ | ⟨_, _, heq⟩ := c.command_cases cmd <;> rw [heq]
  · exact errorKeepsConn_of_conn rfl nofun
  · exact errorKeepsConn_of_conn rfl nofun
  · exact startRoundtrip_errorKeepsConn hst _

theorem connect_errorKeepsConn {c : Control} (hst : c.res.st = .ok) : c.ErrorKeepsConn c.connect := by
  cases hconn : c.conn with
  | connected =>
    rw [connect_connected hconn]
    exact errorKeepsConn_of_conn rfl nofun
  | disconnected =>
    rw [connect_disconnected hconn]
    exact resumeConnect_errorKeepsConn (c := { c with wait := .connect }.act .connect) hst hconn

theorem disconnect_st (c : Control) : c.disconnect.res.st = .ok := by
  unfold disconnect
  split <;> rfl

/-- A request is handled by its body or changes nothing. -/
theorem request_errorKeepsConn {c : Control} (hst : c.res.st = .ok) (r : Req) {body : Control → Control}
    (hbody : (c.accept r).ErrorKeepsConn (body (c.accept r))) : c.ErrorKeepsConn (c.request r body) := by
  cases hbusy : c.busy with
  | true =>
    rw [request_busy hbusy]
    exact errorKeepsConn_of_ok hst
  | false =>
    rw [request_idle hbusy]
    exact hbody

theorem roundtripAlone_errorKeepsConn {c : Control} (hst : c.res.st = .ok) (cmd : Command) :
    c.ErrorKeepsConn (c.roundtripAlone cmd) := by
  obtain ⟨_, heq⟩ | ⟨_, _, _, heq⟩ := c.roundtripAlone_cases cmd <;> rw [heq]
  · exact errorKeepsConn_of_ok hst
  · exact startRoundtrip_errorKeepsConn (c := { c with busy := true }) hst _

/-- Of all moves of an agent with no result presented, whose CONNECT waits while disconnected only. -/
theorem Moves.errorKeepsConn {c c' : Control} {head : Option Stim} (hmove : c.Moves head c') (hst : c.res.st = .ok)
    (hwait : c.wait = .connect → c.conn = .disconnected) : c.ErrorKeepsConn c' := by
  cases hmove with
  | keep => exact errorKeepsConn_of_ok hst
  | readAnswer _ a => exact resume_errorKeepsConn (c := { c with tp := _ }) hst hwait
  | writeAnswer _ a => exact resume_errorKeepsConn (c := { c with tp := _ }) hst hwait
  | connectAnswer ok => exact resume_errorKeepsConn (c := { c with tp := _ }) hst hwait
  | command _ r cmd => exact request_errorKeepsConn hst r (command_errorKeepsConn (c := c.accept r) hst cmd)
  | connect x p r => exact request_errorKeepsConn hst r (connect_errorKeepsConn (c := c.accept r) hst)
  | disconnect x p r => exact request_errorKeepsConn hst r (errorKeepsConn_of_ok (disconnect_st _))
  | refuse _ r => exact request_errorKeepsConn hst r (errorKeepsConn_of_conn rfl nofun)
  | roundtrip _ cmd => exact roundtripAlone_errorKeepsConn hst cmd
  | reset k => exact errorKeepsConn_of_ok rfl

end Control

/-- Settles O57: a step is a move of the control agent with its outputs withdrawn, and by the invariant a waiting CONNECT
is one of a disconnected channel. -/
theorem noErrorChangesConn : Obligations.NoErrorChangesConn := fun _ _ hinv hstep _ =>
  (step_ctl_moves hstep).errorKeepsConn rfl fun hwait => (hinv.ctl.connect_wait hwait).1

end Sys2Proof.Machine

/-! ## The receive agent on one datagram and one iteration (R145 to R157)

What the agent does with the outcome of a receive, said once for each outcome; then the same through `exec` and through a
step. -/

namespace Sys2Proof.Machine

namespace Receive

theorem takeDatagram_accepted {D : List Byte} (haccept : dgramCheck D = true) (r : Receive) :
    r.takeDatagram D = { r with dgram := D, sink := r.sink ++ [.append (extract D)] } := by
  rw [takeDatagram_eq, if_pos haccept]

theorem takeDatagram_rejected {D : List Byte} (hreject : dgramCheck D = false) (r : Receive) :
    r.takeDatagram D = { r with dgram := D, ev := .malformedPacket, evValid := true } := by
  rw [takeDatagram_eq, if_neg (Bool.eq_false_iff.mp hreject)]

/-- A datagram that U5 does not drop is judged (R145). -/
theorem handle_dgram_judged {r : Receive} {abandons : Bool} (hkeep : abandons = false ∨ r.rose = false)
    (D : List Byte) :
    r.handle abandons (.dgram D) = { r with wait := false, rose := false }.takeDatagram D := by
  have hdrop : (abandons && r.rose) = false := Bool.and_eq_false_iff.mpr hkeep
  simp [handle, hdrop]

/-- The datagram of a receive during which `cancel` rose is dropped where U5 says so. -/
theorem handle_dgram_abandoned {r : Receive} (hrose : r.rose = true) (D : List Byte) :
    r.handle true (.dgram D) = { r with dgram := D, wait := false, rose := false } := by
  simp [handle, hrose]

/-- The outcome that a waiting receive finds alone is used at once, so the queue is what it was (R152). -/
theorem offer_waiting {r : Receive} (hrun : r.run = true) (hwait : r.wait = true) (hqueue : r.outcomes = [])
    (abandons : Bool) (o : RxOutcome) : r.offer abandons o = r.handle abandons o :=
  resume_cons (r := { r with outcomes := r.outcomes ++ [o] }) (os := r.outcomes) hrun hwait (by simp [hqueue]) abandons

theorem start_idle {r : Receive} (hidle : r.run = false) :
    r.start = { r with run := true, wait := false, rose := false, startSt := .ok, startValid := true } := by
  simp [start, hidle]

theorem start_running {r : Receive} (hrun : r.run = true) :
    r.start = { r with startSt := .refused, startValid := true } := by
  simp [start, hrun]

theorem iterate_not_enabled {r : Receive} (h : r.run = false ∨ r.wait = true) (abandons : Bool) :
    r.iterate abandons = r := by
  obtain hidle | hwait := h
  · simp [iterate, hidle]
  · simp [iterate, hwait]

theorem iterate_cancelled {r : Receive} (hrun : r.run = true) (hwait : r.wait = false) (hcancel : r.cancel = true)
    (abandons : Bool) : r.iterate abandons = r.endSession .cancelled := by
  simp [iterate, hrun, hwait, hcancel]

/-- The receive of an iteration, before its outcome is looked for (R151). -/
def beginReceive (r : Receive) : Receive :=
  { r with wait := true, rose := false, sockActs := r.sockActs ++ [.receive] }

theorem iterate_receives {r : Receive} (hrun : r.run = true) (hwait : r.wait = false) (hcancel : r.cancel = false)
    (abandons : Bool) : r.iterate abandons = r.beginReceive.resume abandons := by
  simp [iterate, hrun, hwait, hcancel, beginReceive]

theorem iterate_nil {r : Receive} (hrun : r.run = true) (hwait : r.wait = false) (hcancel : r.cancel = false)
    (hqueue : r.outcomes = []) (abandons : Bool) : r.iterate abandons = r.beginReceive := by
  rw [iterate_receives hrun hwait hcancel, resume_nil (by exact hqueue)]

theorem iterate_cons {r : Receive} (hrun : r.run = true) (hwait : r.wait = false) (hcancel : r.cancel = false)
    {o : RxOutcome} {os : List RxOutcome} (hqueue : r.outcomes = o :: os) (abandons : Bool) :
    r.iterate abandons = { r.beginReceive with outcomes := os }.handle abandons o := by
  rw [iterate_receives hrun hwait hcancel, resume_cons (by exact hrun) rfl (by exact hqueue)]

/-- A datagram that is ready at the top is judged whatever the parameter of U5 is: `cancel` cannot have risen during the
receive that takes it. -/
theorem iterate_dgram {r : Receive} (hrun : r.run = true) (hwait : r.wait = false) (hcancel : r.cancel = false)
    {D : List Byte} {os : List RxOutcome} (hqueue : r.outcomes = .dgram D :: os) (abandons : Bool) :
    r.iterate abandons =
      { r with rose := false, outcomes := os, sockActs := r.sockActs ++ [SockAct.receive] }.takeDatagram D := by
  rw [iterate_cons hrun hwait hcancel hqueue, handle_dgram_judged (.inr rfl), hwait]
  rfl

/-- An outcome that is no datagram ends the session, after the receive that it answers (R154, R155). -/
theorem iterate_ends {r : Receive} (hrun : r.run = true) (hwait : r.wait = false) (hcancel : r.cancel = false)
    {o : RxOutcome} {os : List RxOutcome} (hqueue : r.outcomes = o :: os) {abandons : Bool} {reason : Code}
    (hends : ∀ q : Receive, q.handle abandons o = q.endSession reason) :
    r.iterate abandons = { r with
      run := false, rose := false, outcomes := os, endRsn := reason, endValid := true
      sink := r.sink ++ [.release], sockActs := r.sockActs ++ [SockAct.receive, .release] } := by
  rw [iterate_cons hrun hwait hcancel hqueue, hends]
  simp [endSession, beginReceive, hwait]

end Receive

/-! ### The verdict and the payload (R145, R146) -/

theorem dgramCheck_iff (D : List Byte) :
    dgramCheck D = true ↔
      (D.length = 512 ∨ D.length = 1024) ∧ D[0]? = some 0x04 ∧ (D[1]? = some 0x84 ∨ D[1]? = some 0x82) := by
  unfold dgramCheck
  split_ifs with hlen h0 h1
  · exact iff_of_false nofun fun ⟨hlen', _⟩ => not_or.mpr hlen hlen'
  · exact iff_of_false nofun fun ⟨_, h0', _⟩ => h0 h0'
  · exact iff_of_false nofun fun ⟨_, _, h1'⟩ => not_or.mpr h1 h1'
  · exact iff_of_true rfl ⟨or_iff_not_and_not.mpr hlen, not_not.mp h0, or_iff_not_and_not.mpr h1⟩

theorem length_le_dgramCap_of_dgramCheck {D : List Byte} (haccept : dgramCheck D = true) : D.length ≤ dgramCap := by
  obtain ⟨hlen | hlen, _⟩ := (dgramCheck_iff D).mp haccept
  · exact hlen ▸ by decide
  · exact hlen ▸ by decide

theorem exec_dgramCheck (D : List Byte) (s : State) :
    exec (.dgramCheck D) s = .next { s with fn := .verdict (dgramCheck D) } := rfl

theorem exec_extract {D : List Byte} (hlen : 4 ≤ D.length) (s : State) :
    exec (.extract D) s = .next { s with fn := .payload (extract D) } := if_pos hlen

theorem exec_extract_short {D : List Byte} (hlen : D.length < 4) (s : State) :
    exec (.extract D) s = .fault .noPayload := if_neg (Nat.not_le.mpr hlen)

/-- Settles O37: each of the three tests of R145 rejects where its condition fails. -/
theorem datagramVerdict : Obligations.DatagramVerdict := ⟨exec_dgramCheck, dgramCheck_iff⟩

/-- Settles O38: the payload is the datagram without its first four bytes. -/
theorem extractPayload : Obligations.ExtractPayload := by
  refine ⟨fun D s hlen => ⟨extract D, exec_extract hlen s, List.length_drop, fun k => ?_⟩,
    fun D s hshort => exec_extract_short hshort s⟩
  rw [extract, List.getElem?_drop, Nat.add_comm]

/-! ### A datagram that ends the receive in progress (R147, R148, U5) -/

theorem exec_dgram_waiting {i : Instr} {D : List Byte} {s : State} (henc : encode i = .dgram 0 D)
    (hcap : D.length ≤ dgramCap) (hrun : s.rx.run = true) (hwait : s.rx.wait = true) (hqueue : s.rx.outcomes = []) :
    exec i s = .next { s with rx := s.rx.handle s.params.cancelAbandonsInflight (.dgram D) } := by
  rw [exec_of_encode_dgram henc, offerDatagram, if_pos hcap, State.onRx, Receive.offer_waiting hrun hwait hqueue]

/-- Settles O39: the four rows are the accepted datagrams, and their payload is what EXTRACT gives. -/
theorem acceptedDatagramAppended : Obligations.AcceptedDatagramAppended := by
  intro i kind r0 r1 P s hrow hrun hwait hqueue hkeep
  obtain ⟨henc, haccept⟩ :
      encode i = .dgram 0 (iqBytes kind r0 r1 P) ∧ dgramCheck (iqBytes kind r0 r1 P) = true := by
    rw [iqBytes, dgramCheck_framed]
    obtain ⟨rfl, rfl, hlen⟩ | ⟨rfl, rfl, hlen⟩ | ⟨rfl, rfl, hlen⟩ | ⟨rfl, rfl, hlen⟩ := hrow
    · exact ⟨rfl, .inr hlen, rfl, .inl rfl⟩
    · exact ⟨rfl, .inl hlen, rfl, .inl rfl⟩
    · exact ⟨rfl, .inr hlen, rfl, .inr rfl⟩
    · exact ⟨rfl, .inl hlen, rfl, .inr rfl⟩
  have hcap := length_le_dgramCap_of_dgramCheck haccept
  rw [exec_dgram_waiting henc hcap hrun hwait hqueue, Receive.handle_dgram_judged hkeep,
    Receive.takeDatagram_accepted haccept]
  rfl

/-- Settles O40: a well-formed DGRAM_MALFORMED is a datagram that can be counted and that DGRAM_CHECK rejects. -/
theorem malformedDatagramReported : Obligations.MalformedDatagramReported := by
  intro d s hwf hrun hwait hqueue hkeep
  obtain ⟨hreject, hcap⟩ : dgramCheck d = false ∧ d.length ≤ dgramCap := by simpa [wellFormed] using hwf
  rw [exec_dgram_waiting rfl hcap hrun hwait hqueue, Receive.handle_dgram_judged hkeep,
    Receive.takeDatagram_rejected hreject]

/-! ### RX_START and ITERATE (R150 to R155) -/

theorem exec_rxStart (s : State) : exec .rxStart s = .next { s with rx := s.rx.start } := rfl

theorem exec_iterate (s : State) :
    exec .iterate s = .next { s with rx := s.rx.iterate s.params.cancelAbandonsInflight } := rfl

/-- Settles O43: the two cases of `rx_run`. -/
theorem rxStartBeginsOneSession : Obligations.RxStartBeginsOneSession := by
  intro s
  refine ⟨_, exec_rxStart s, rfl, s.rx.start_run, ?_⟩
  cases hrun : s.rx.run with
  | false => simp [Receive.start_idle hrun]
  | true => simp [Receive.start_running hrun]

/-- Settles O46: ITERATE is not enabled. -/
theorem iterationOnlyWhileRunning : Obligations.IterationOnlyWhileRunning := by
  intro s hdisabled
  rw [exec_iterate, Receive.iterate_not_enabled hdisabled]

/-- Settles O45: one receive is begun, and a case for each outcome that it can find. -/
theorem iterationMakesOneReceive : Obligations.IterationMakesOneReceive := by
  intro s hrun hwait hcancel
  rw [exec_iterate]
  refine ⟨fun hqueue => ?_, fun os hqueue => ?_, fun os hqueue => ?_, fun D os hqueue haccept => ?_,
    fun D os hqueue hreject => ?_⟩
  · rw [Receive.iterate_nil hrun hwait hcancel hqueue]
    rfl
  · rw [Receive.iterate_ends hrun hwait hcancel hqueue fun _ => rfl]
  · rw [Receive.iterate_ends hrun hwait hcancel hqueue fun _ => rfl]
  · rw [Receive.iterate_dgram hrun hwait hcancel hqueue, Receive.takeDatagram_accepted haccept]
    rfl
  · rw [Receive.iterate_dgram hrun hwait hcancel hqueue, Receive.takeDatagram_rejected hreject]

/-! ### Steps: `cancel`, a datagram and the iteration after it (R156, R205) -/

theorem step_of_cancel {s : State} {level : Bool} {rest : List Stim} (hfeed : s.feed = .cancel level :: rest) :
    step s = .next { s with ctl := s.ctl.quiet, rx := s.rx.quiet.setCancel level, feed := rest } :=
  step_of_not_txn hfeed nofun

theorem step_of_dgram_waiting {s : State} {sender : Nat} {D : List Byte} {rest : List Stim}
    (hfeed : s.feed = .txn (.dgram sender D) :: rest) (hcap : D.length ≤ dgramCap) (hrun : s.rx.run = true)
    (hwait : s.rx.wait = true) (hqueue : s.rx.outcomes = []) :
    step s = .next { s with
      ctl := s.ctl.quiet, rx := s.rx.quiet.handle s.params.cancelAbandonsInflight (.dgram D), feed := rest } := by
  obtain ⟨i, hdec, hrow⟩ := dgramRow_of_length hcap
  exact (step_of_decode_ok hfeed hdec).trans
    (exec_dgram_waiting (s := ({ s with feed := rest } : State).quiet) hrow.encode_eq hcap hrun hwait hqueue)

theorem step_of_iterate_cancelled {s : State} {rest : List Stim} (hfeed : s.feed = .txn .iterate :: rest)
    (hrun : s.rx.run = true) (hwait : s.rx.wait = false) (hcancel : s.rx.cancel = true) :
    step s = .next { s with ctl := s.ctl.quiet, rx := s.rx.quiet.endSession .cancelled, feed := rest } := by
  rw [← Receive.iterate_cancelled (r := s.rx.quiet) hrun hwait hcancel s.params.cancelAbandonsInflight]
  exact step_of_decode_ok hfeed rfl

theorem run_of_step {s t : State} (hstep : step s = .next t) (k : Nat) : core.run (k + 1) s = core.run k t := by
  simp only [Host.Core.run, core, hstep]

theorem run_of_two_steps {s t u : State} (hstep : step s = .next t) (hstep' : step t = .next u) (k : Nat) :
    core.run (k + 2) s = core.run k u :=
  (run_of_step hstep (k + 1)).trans (run_of_step hstep' k)

/-- `cancel` rises in a receive, and the datagram that then arrives ends it. -/
theorem steps_cancel_dgram {s : State} {sender : Nat} {D : List Byte} {rest : List Stim}
    (hfeed : s.feed = .cancel true :: .txn (.dgram sender D) :: rest) (hcap : D.length ≤ dgramCap)
    (hrun : s.rx.run = true) (hwait : s.rx.wait = true) (hqueue : s.rx.outcomes = []) :
    ∃ t, step s = .next t ∧ step t = .next { s with
      ctl := s.ctl.quiet, feed := rest
      rx := (s.rx.quiet.setCancel true).handle s.params.cancelAbandonsInflight (.dgram D) } :=
  ⟨_, step_of_cancel hfeed, step_of_dgram_waiting rfl hcap hrun hwait hqueue⟩

/-- Settles O41: `cancel` that rises in a receive is remembered, so that the datagram is dropped, and it is still up at
the top of the next iteration. -/
theorem abandonedDatagramDropped : Obligations.AbandonedDatagramDropped := by
  refine ⟨fun i D s henc hcap hrun hwait hqueue habandons hrose => ?_, fun s level rest hfeed => step_of_cancel hfeed,
    fun s sender D rest habandons hcap hrun hwait hqueue hfeed => ?_⟩
  · rw [exec_dgram_waiting henc hcap hrun hwait hqueue, habandons, Receive.handle_dgram_abandoned hrose]
  · obtain ⟨t, hcancel, hdgram⟩ := steps_cancel_dgram hfeed hcap hrun hwait hqueue
    have hrose : (s.rx.quiet.setCancel true).rose = true := by simp [hrun, hwait]
    rw [habandons, Receive.handle_dgram_abandoned hrose] at hdgram
    refine ⟨run_of_two_steps hcancel hdgram 0, fun rest' hrest => ?_⟩
    have hiterate := step_of_iterate_cancelled (s := { s with
      ctl := s.ctl.quiet, feed := rest
      rx := { s.rx.quiet with cancel := true, wait := false, rose := false, dgram := D } }) hrest hrun rfl rfl
    exact (run_of_step hcancel 2).trans (run_of_two_steps hdgram hiterate 0)

/-- Settles O47: the datagram is judged as if `cancel` had not risen, which the next iteration is the first to read. -/
theorem cancellationIsNotPreemptive : Obligations.CancellationIsNotPreemptive := by
  intro s sender D hkeep haccept hrun hwait hqueue hfeed
  have hcap := length_le_dgramCap_of_dgramCheck haccept
  obtain ⟨t, hcancel, hdgram⟩ := steps_cancel_dgram hfeed hcap hrun hwait hqueue
  rw [Receive.handle_dgram_judged (.inl hkeep), Receive.takeDatagram_accepted haccept] at hdgram
  have hiterate := step_of_iterate_cancelled (s := { s with
    ctl := s.ctl.quiet, feed := [.txn .iterate]
    rx := { s.rx.quiet with
      cancel := true, wait := false, rose := false, dgram := D, sink := s.rx.sink ++ [.append (extract D)] } })
    rfl hrun rfl rfl
  exact ⟨_, (run_of_step hcancel 2).trans (run_of_two_steps hdgram hiterate 0), rfl, rfl, rfl,
    List.append_assoc .., rfl⟩

/-- Settles O50: the decoder does not look at the sender, so both transactions decode alike. -/
theorem senderMakesNoDifference : Obligations.SenderMakesNoDifference := by
  intro s a b D rest
  have hdecode : decode (.dgram a D) = decode (.dgram b D) := rfl
  cases hdec : decode (.dgram b D) with
  | ok i => exact Eq.trans (step_of_decode_ok rfl (hdecode.trans hdec)) (Eq.symm (step_of_decode_ok rfl hdec))
  | error e => exact Eq.trans (step_of_decode_error rfl (hdecode.trans hdec)) (Eq.symm (step_of_decode_error rfl hdec))

end Sys2Proof.Machine

/-! ## Errors that end an operation: a command not admitted (R172, R173), the ends of a session (R175, R176, R179) -/

namespace Sys2Proof.Machine

/-! ### A command that is not admitted -/

theorem Control.command_disconnected {c : Control} {cmd : Command} (hvalid : cmd.Valid)
    (hconn : c.conn = .disconnected) : c.command cmd = c.raise .stateError 0 0 := by
  simp [command, hconn, admitCheck_disconnected_of_valid hvalid]

theorem Control.command_not_valid (c : Control) {cmd : Command} (hinvalid : ¬ cmd.Valid) :
    c.command cmd = c.raise .validationError (vdetOf cmd) 0 := by
  simp [command, admitCheck_of_not_valid hinvalid]

theorem exec_command_idle {i : Instr} {cmd : Command} {s : State} (hcmd : commandOf s.params.freqDp i = some cmd)
    (hidle : s.ctl.busy = false) : ∃ r, exec i s = .next { s with ctl := (s.ctl.accept r).command cmd } := by
  obtain ⟨r, hexec⟩ := exec_of_commandOf hcmd
  rw [State.onCtl, Control.request_idle hidle] at hexec
  exact ⟨r, hexec⟩

/-- Settles O23: the accepted request is raised as StateError, which leaves the frame buffers and the transport alone. -/
theorem commandWhileDisconnectedIsStateError : Obligations.CommandWhileDisconnectedIsStateError := by
  intro i cmd s hcmd hvalid hidle hconn
  obtain ⟨r, hexec⟩ := exec_command_idle hcmd hidle
  rw [Control.command_disconnected hvalid (by exact hconn)] at hexec
  exact ⟨_, hexec, rfl, s.ctl.accept_raise_completed r .stateError 0 0, hconn, rfl, rfl, rfl⟩

/-- Settles O24: the accepted request is raised as ValidationError before the connection state is read; the mask is 0 for
valid parameters only. -/
theorem invalidParameterIsValidationError : Obligations.InvalidParameterIsValidationError := by
  intro i cmd s hcmd hinvalid hidle
  obtain ⟨r, hexec⟩ := exec_command_idle hcmd hidle
  rw [Control.command_not_valid _ hinvalid] at hexec
  have hmask : vdetOf cmd ≠ 0 := mt (vdetOf_eq_zero_iff cmd).mp hinvalid
  exact ⟨_, vdetOf cmd, hexec, rfl, s.ctl.accept_raise_completed r .validationError (vdetOf cmd) 0, rfl, hmask, rfl,
    rfl, rfl, rfl, rfl⟩

/-! ### The ends of a session -/

/-- Settles O44: at the top `cancel` is read before any outcome, and ends the session; no receive is in progress to be
taken back. -/
theorem cancelAtTopEndsSession : Obligations.CancelAtTopEndsSession := by
  refine fun s hrun hwait hcancel => ⟨?_, rfl⟩
  rw [exec_iterate, Receive.iterate_cancelled hrun hwait hcancel]
  simp [Receive.endSession, hwait]

theorem step_of_timeout {s : State} {rest : List Stim} (hfeed : s.feed = .timeout :: rest) :
    step s = .next { s with
      ctl := s.ctl.quiet, rx := s.rx.quiet.offer s.params.cancelAbandonsInflight .timeout, feed := rest } :=
  step_of_not_txn hfeed nofun

theorem step_of_sockErr {s : State} {rest : List Stim} (hfeed : s.feed = .sockErr :: rest) :
    step s = .next { s with
      ctl := s.ctl.quiet, rx := s.rx.quiet.offer s.params.cancelAbandonsInflight .sockErr, feed := rest } :=
  step_of_not_txn hfeed nofun

/-- Settles O48: the waiting receive uses the outcome at once, and each of the two ends the session with its own reason. -/
theorem waitingReceiveEndsSession : Obligations.WaitingReceiveEndsSession := by
  intro s e reason rest hend hfeed hrun hwait hqueue
  have hoffer := Receive.offer_waiting (r := s.rx.quiet) hrun hwait hqueue s.params.cancelAbandonsInflight
  obtain ⟨rfl, rfl⟩ | ⟨rfl, rfl⟩ := hend
  · rw [step_of_timeout hfeed, hoffer]
    rfl
  · rw [step_of_sockErr hfeed, hoffer]
    rfl

end Sys2Proof.Machine

/-! ## A command that the transport leaves unanswered (R135, R202) -/

namespace Sys2Proof.Machine

/-- Settles O27: the round trip of the command's frame, which stops at the first transport request without an answer, the
write or the read after it. -/
theorem unansweredCommandStaysBusy : Obligations.UnansweredCommandStaysBusy := by
  intro i cmd s hcmd hvalid hidle hconn
  obtain ⟨r, hexec⟩ := exec_admitted_command hcmd hvalid hidle hconn
  refine ⟨fun hwrite => ?unwritten, fun ws hwrite hread => ?unread⟩
  case unwritten =>
    obtain ⟨hpending, hresp, -, htp⟩ := Control.accept_startRoundtrip_unwritten r cmd.frame hwrite
    exact ⟨_, hexec, rfl, hpending, Control.startRoundtrip_cmd .., hresp, htp⟩
  case unread =>
    obtain ⟨hpending, hresp, -, htp⟩ := Control.accept_startRoundtrip_unread r cmd.frame hwrite hread
    exact ⟨_, hexec, rfl, hpending, Control.startRoundtrip_cmd .., hresp, htp⟩

end Sys2Proof.Machine
